-- ==== Sys2Proof/Word.lean ====
section
/-! DEFINITION. The words of the DZ424: bytes of frames, field records and journal records, the 32-bit clocks,
and the numbered things of the manual (consoles, areas, points, handover records, groups, roster slots). -/

namespace Sys2Proof

/-- One byte of a console frame (R166), a field record (R140) or a journal record (10.4). -/
abbrev Byte := BitVec 8

/-- A 32-bit clock value: the run clock and the journal clock (R153), and every deadline held on the run clock. -/
abbrev Word32 := BitVec 32

/-- Console 0 to console 3 (00_scope, Conventions). Desk d belongs to console d. -/
abbrev Console := Fin 4

/-- Area 0 to area 23. -/
abbrev AreaNo := Fin 24

/-- Point 0 to point 511. -/
abbrev PointNo := Fin 512

/-- Handover record 0 to record 3. -/
abbrev RecordNo := Fin 4

/-- Roster slot 0 to slot 63. -/
abbrev SlotNo := Fin 64

/-- First-out group entries: index g stands for group g + 1 (R50). -/
abbrev GroupNo := Fin 8

/-- A set of areas, as 24 area flags with area 0 in the least significant bit (R173). -/
abbrev AreaSet := BitVec 24

/-- A set of checklist items, as 16 item flags (R95, R173). -/
abbrev ItemSet := BitVec 16

/-- A set of event flags, NEW_ALARM in bit 0 through JOURNAL in bit 8 (R173). -/
abbrev FlagSet := BitVec 9

/-- A class set, one flag for each of class 0 to class 7 (R9, R173). -/
abbrev ClassSet := BitVec 8

end Sys2Proof
end

