-- ==== Sys2Proof/Syntax.lean ====
section
/-! DEFINITION. The commands of the DZ424, one constructor for each row of spec/opcode_table.json. A console request
carries its port and the bytes of its frame as received, since the port reads every operand from those bytes (R173).
An event of the part's own timers, links, buttons or pins carries what the world outside decides about it. -/

namespace Sys2Proof

/-- The bytes of a good request frame that follow the command code: the tag (byte 2) and the operand bytes 3 to 7.
The check byte is not held: a good frame's check follows from the other seven (R167). -/
structure Request where
  tag : Byte
  b3 : Byte
  b4 : Byte
  b5 : Byte
  b6 : Byte
  b7 : Byte
  deriving DecidableEq, Repr

/-- The three pushbuttons of a desk (R121). -/
inductive Button where
  | ack
  | silence
  | test
  deriving DecidableEq, Repr

/-- The level of a desk line: a pressed button holds its line low (6.3, R121). -/
inductive Level where
  | pressed
  | released
  deriving DecidableEq, Repr

/-- The commands: 61 kinds of console frame and 24 events. -/
inductive Instr where
  /-- NOP (R166). A good frame carrying NOP makes NOP's own response pending, so the console can fetch the answer to its last request. -/
  | nop (c : Console) (r : Request)
  /-- READ_MORE (R168). Returns five further bytes of the port's result record, selected by part number. -/
  | readMore (c : Console) (r : Request)
  /-- PORT_RESET (R172). Gives the port the IDLE response, empties its result record, clears its flags and closes its list cursor. -/
  | portReset (c : Console) (r : Request)
  /-- READ_FLAGS (R169). Returns the port's set flags, its mask and the interrupt line level. -/
  | readFlags (c : Console) (r : Request)
  /-- CLEAR_FLAGS (R169). Clears the named event flags at the requesting port. -/
  | clearFlags (c : Console) (r : Request)
  /-- SET_MASK (R170). Opens the named flags of the port's mask and closes the rest, re-driving the interrupt line. -/
  | setMask (c : Console) (r : Request)
  /-- READ_CONDITIONS (R171). Returns the unlatched conditions: link, journal, flood in scope, horn, absent consoles and device state. -/
  | readConditions (c : Console) (r : Request)
  /-- SIGN_ON (R12). Signs an operator on at the requesting console after its checks, journals it and re-evaluates attendance. -/
  | signOn (c : Console) (r : Request)
  /-- SIGN_OFF (R14). Signs off the operator at the console, journals it, aborts a record in which the console is incoming and re-evaluates attendance. -/
  | signOff (c : Console) (r : Request)
  /-- READ_SIGNON (R11). Returns the operator signed on at a named console. -/
  | readSignon (c : Console) (r : Request)
  /-- READ_OPERATOR (R11). Returns the contents of one roster slot. -/
  | readOperator (c : Console) (r : Request)
  /-- ACK_POINT (R36). Acknowledges one point, completing it or recording a partial acknowledgement, with an optional supervisor override. -/
  | ackPoint (c : Console) (r : Request)
  /-- ACK_AREA (R37). Visits every unacknowledged point of one area in point order and settles each under the ack authority rules. -/
  | ackArea (c : Console) (r : Request)
  /-- ACK_ALL (R38). Visits every unacknowledged point of the areas where the console has SOLE or PARTY standing and settles each. -/
  | ackAll (c : Console) (r : Request)
  /-- SILENCE (R129). Adds the console's current horn demand to its silenced set, stops its chirp timer and releases its horn. -/
  | silence (c : Console) (r : Request)
  /-- LIST_OPEN (R42). Opens the port's list cursor before the first entry with the given scope and returns the count in scope. -/
  | listOpen (c : Console) (r : Request)
  /-- LIST_NEXT (R44). Returns the next alarm-list entry in scope above the cursor's last key, or END. -/
  | listNext (c : Console) (r : Request)
  /-- READ_POINT (R45). Returns one page of a point entry. -/
  | readPoint (c : Console) (r : Request)
  /-- READ_AREA (R8). Returns one page of an area entry. -/
  | readArea (c : Console) (r : Request)
  /-- READ_HORN (R130). Returns a console's horn scope, demand priority, chirp state, silenced count and horn output. -/
  | readHorn (c : Console) (r : Request)
  /-- LAMP_TEST (R136). Starts the lamp test, or extends a running test to 16 frames. -/
  | lampTest (c : Console) (r : Request)
  /-- SHELVE (R58). Places a point on the shelf, or re-shelves it, with an expiry and the shelving console and operator. -/
  | shelve (c : Console) (r : Request)
  /-- UNSHELVE (R61). Takes a point off the shelf before its expiry and returns it to the sequence. -/
  | unshelve (c : Console) (r : Request)
  /-- READ_SHELF (R66). Returns the shelf entry at a given position, or END. -/
  | readShelf (c : Console) (r : Request)
  /-- REARM_GROUP (R54). Rearms a tripped first-out group at once and clears every member's mark. -/
  | rearmGroup (c : Console) (r : Request)
  /-- READ_GROUP (R55). Returns a first-out group's state, first point and member counts. -/
  | readGroup (c : Console) (r : Request)
  /-- READ_FLOOD (R70). Returns an area's load, flood state and thresholds, or a weight, or the decay shift. -/
  | readFlood (c : Console) (r : Request)
  /-- TAKEOVER (R22). The lead desk's supervisor takes the named unattended areas to console 0. -/
  | takeover (c : Console) (r : Request)
  /-- HO_OFFER (R87). Offers a set of owned areas to an incoming console in the lowest free handover record. -/
  | hoOffer (c : Console) (r : Request)
  /-- HO_ACCEPT (R90). The incoming console accepts an offered record, which enters REVIEWING. -/
  | hoAccept (c : Console) (r : Request)
  /-- HO_DECLINE (R92). The incoming console declines an offered record, ending it DECLINED. -/
  | hoDecline (c : Console) (r : Request)
  /-- HO_WITHDRAW (R93). The outgoing console withdraws a live record, ending it WITHDRAWN. -/
  | hoWithdraw (c : Console) (r : Request)
  /-- HO_PRESENT (R95). The outgoing party sets the presented items and its notify settings, and the release is withdrawn. -/
  | hoPresent (c : Console) (r : Request)
  /-- HO_CONFIRM (R96). The incoming party sets the confirmed items and its notify settings. -/
  | hoConfirm (c : Console) (r : Request)
  /-- HO_RELEASE (R99). The outgoing party gives the release of a reviewing record. -/
  | hoRelease (c : Console) (r : Request)
  /-- HO_UNRELEASE (R99). The outgoing party withdraws the release of a reviewing record. -/
  | hoUnrelease (c : Console) (r : Request)
  /-- HO_TAKE (R101). The incoming party takes the areas, committing the record if the hold, release, checklist and gate checks pass. -/
  | hoTake (c : Console) (r : Request)
  /-- HO_FORCE_COMMIT (R105). The supervisor at console 0 forces the commit of a reviewing record, with outcome SUPERSEDED. -/
  | hoForceCommit (c : Console) (r : Request)
  /-- HO_FORCE_CANCEL (R105). The supervisor at console 0 cancels a live record, with outcome ABORTED and cause SUPERVISOR. -/
  | hoForceCancel (c : Console) (r : Request)
  /-- HO_READ (R108). Returns one page of a handover record. -/
  | hoRead (c : Console) (r : Request)
  /-- SET_TIME (R154). Sets the journal clock offset so that the journal clock reads the given value, and makes a TIME_SET record. -/
  | setTime (c : Console) (r : Request)
  /-- JOURNAL_START (R161). Puts the journal stream into STREAMING. -/
  | journalStart (c : Console) (r : Request)
  /-- JOURNAL_STOP (R161). Stops the journal stream at once, or after the unit in transmission. -/
  | journalStop (c : Console) (r : Request)
  /-- JOURNAL_CLEAR (R162). Discards every queued journal record except the one in transmission, counting them as drops. -/
  | journalClear (c : Console) (r : Request)
  /-- JOURNAL_RESET (R163). Empties the journal, cuts short the unit in transmission, zeroes the drop counters and stops the stream. -/
  | journalReset (c : Console) (r : Request)
  /-- READ_JOURNAL (R164). Returns the journal's stream and FIFO state, or its clocks. -/
  | readJournal (c : Console) (r : Request)
  /-- READ_LINK_COUNTS (R149). Returns the field link counters and state, optionally clearing the counters. -/
  | readLinkCounts (c : Console) (r : Request)
  /-- CFG_POINT (R24). Writes the configuration fields of one point while CONFIGURING. -/
  | cfgPoint (c : Console) (r : Request)
  /-- CFG_AREA (R175). Writes an area's required class, joint ack mode and gate level. -/
  | cfgArea (c : Console) (r : Request)
  /-- CFG_OPERATOR (R9). Writes or empties one roster slot. -/
  | cfgOperator (c : Console) (r : Request)
  /-- CFG_TIMING (R175). Writes one timing setting chosen by selector. -/
  | cfgTiming (c : Console) (r : Request)
  /-- CFG_FLOOD (R68). Writes an area's flood thresholds, a priority weight, or the decay shift. -/
  | cfgFlood (c : Console) (r : Request)
  /-- CFG_LINKS (R175). Writes the field baud rate, the link-loss time or the journal rate. -/
  | cfgLinks (c : Console) (r : Request)
  /-- CFG_BOARD (R139). Writes the lamp-test pattern fields chosen by selector. -/
  | cfgBoard (c : Console) (r : Request)
  /-- CFG_CLOCK (R176). Writes the reference divider REF_DIVIDE and restarts the divider count. -/
  | cfgClock (c : Console) (r : Request)
  /-- COMMIT_CONFIG (R177). Takes the applied T_off values, enters IN_SERVICE and sets the restart live state. -/
  | commitConfig (c : Console) (r : Request)
  /-- RESTART (R178). Sets the restart live state while staying IN_SERVICE. -/
  | restart (c : Console) (r : Request)
  /-- RECONFIGURE (R178). Sets the restart live state and returns the part to CONFIGURING. -/
  | reconfigure (c : Console) (r : Request)
  /-- BAD_CHECK (R167). A whole frame whose eight bytes do not XOR to 0 is answered BAD_CHECK and not acted on. Only byte 2 of the frame, its tag, has a use. -/
  | badCheck (c : Console) (tag : Byte)
  /-- BAD_COMMAND (R167). A good frame with an unlisted command code is answered BAD_COMMAND. `code` is the unlisted command code. -/
  | badCommand (c : Console) (code : Byte) (r : Request)
  /-- SHORT_FRAME (R166). A frame cut short by its chip select is discarded with no response and no presence refresh. -/
  | shortFrame (c : Console)
  /-- POWER_ON (R180). The reset input holds the outputs released, and its release sets every power-on value. -/
  | powerOn
  /-- MILLISECOND_TICK (R176). The reference divider count expires, giving the millisecond tick that advances the run clock. `ready` is the level of the printer's ready input at the tick, which R158 samples there. -/
  | millisecondTick (ready : Bool)
  /-- SECONDS_TICK (R176). The millisecond-within-second count returns to 0, and the flood decay and handover timers act. `timersFirst` is the order of R80: whether the records' timers count before the decay of the areas, or after it. -/
  | secondsTick (timersFirst : Bool)
  /-- SLOT_BOUNDARY (R127). The slot generator steps to the next slot, and horn outputs follow the new slot. -/
  | slotBoundary
  /-- CHIRP_END (R128). A console's chirp timer reaches its deadline and stops. -/
  | chirpEnd (c : Console)
  /-- CONSOLE_ABSENT (R112). A PRESENT console's presence deadline is reached and it becomes ABSENT. Consoles are taken in ascending number (R112), so the event names none. -/
  | consoleAbsent
  /-- ESCALATE (R116). An UNATTENDED area's escalation deadline is reached and the area becomes ESCALATED. Areas are taken in ascending number (R116), so the event names none. -/
  | escalate
  /-- EXPIRE (R62). Shelf entries whose expiry is reached run out in shelf order, and their points return. -/
  | expire
  /-- HO_LAPSE (R89). A live record's phase timer reaches 0, and the record ends LAPSED. Records are taken in ascending number (R89), so the event names none. -/
  | hoLapse
  /-- LINK_LOST (R147). The link deadline is reached and the field link becomes LOST, making points STALE and raising point 511. -/
  | linkLost
  /-- FIELD_BYTE (R142). A character with a good stop bit arrives on the field line and is handled by the framing rules. -/
  | fieldByte (b : Byte)
  /-- FIELD_LINE_ERROR (R140). A field character without its stop bit is discarded, and the framing state reacts. -/
  | fieldLineError
  /-- FIELD_RECORD (R144). A valid field record arrives, restarting the link timer, passing the sequence test and feeding a point-input event. The seven bytes of a valid record: sync, these five fields, and the check that makes them sum to 0. -/
  | fieldRecord (kind : Byte) (pointHi : Byte) (pointLo : Byte) (state : Byte) (seq : Byte)
  /-- BOARD_FRAME (R133). A board frame starts every 35 ms, taking the board image or the lamp-test image and latching it at its end. -/
  | boardFrame
  /-- DESK_LINE_CHANGE (R121). A desk pushbutton line changes level, updating its candidate level and candidate-since time. `l` is the level the line changes to. -/
  | deskLineChange (d : Console) (b : Button) (l : Level)
  /-- DESK_ACK_PRESS (R122). A debounced press of a desk ACK button acts as ACK_ALL from the desk's console. -/
  | deskAckPress (d : Console)
  /-- DESK_SILENCE_PRESS (R123). A debounced press of a desk SILENCE button silences that console's horn. -/
  | deskSilencePress (d : Console)
  /-- DESK_TEST_PRESS (R123). A debounced press of a desk TEST button adds the desk to the held set and gives a test-press event. -/
  | deskTestPress (d : Console)
  /-- DESK_TEST_RELEASE (R123). A debounced release of a desk TEST button removes the desk from the held set. -/
  | deskTestRelease (d : Console)
  /-- DESK_BUTTON_RELEASE (R121). A debounced release of a desk ACK or SILENCE button, which has no effect. `b` is ACK or SILENCE (WellFormed.lean). -/
  | deskButtonRelease (d : Console) (b : Button)
  /-- JOURNAL_RECORD_SENT (R158). The last byte of the unit in transmission is sent, the record leaves the FIFO and the next unit begins. `ready` is the level of the ready input at that moment (R158). -/
  | journalRecordSent (ready : Bool)
  /-- JOURNAL_READY_RESUME (R158). The printer's ready input is seen asserted again, and the waiting journal byte begins. -/
  | journalReadyResume
  /-- FILLER (R159). At a seconds tick with the journal idle, the quiet flag set and ready asserted, a FILLER record begins. -/
  | filler
  /-- JOURNAL_BYTE_SENT (R158). The stop bit of a byte other than the 16th of the unit in transmission is sent; the count of bytes sent rises by one, and the next byte begins if the ready input is asserted. `ready` is the level of the ready input at that moment (R158); with no byte under way it alone is brought in (DESIGN CHOICE, notes/assumptions/12.md). -/
  | journalByteSent (ready : Bool)
  deriving DecidableEq, Repr

end Sys2Proof
end

