-- ==== Sys2Proof/WellFormed.lean ====
section
/-! DEFINITION. Which commands are well formed: the constraints that the rows of the table put on a command's own
operands, beside the types. An operand out of the range that its rule gives is not ill formed: the command's own checks
refuse it (R173). -/

namespace Sys2Proof

/-- 10.3: the command codes that the command table lists, in ascending order. -/
def listedCodes : List Byte :=
  [0x00#8, 0x01#8, 0x02#8, 0x03#8, 0x04#8, 0x05#8, 0x06#8, 0x10#8, 0x11#8, 0x12#8,
    0x13#8, 0x20#8, 0x21#8, 0x22#8, 0x23#8, 0x24#8, 0x25#8, 0x26#8, 0x27#8, 0x28#8,
    0x29#8, 0x30#8, 0x31#8, 0x32#8, 0x33#8, 0x34#8, 0x35#8, 0x36#8, 0x40#8, 0x41#8,
    0x42#8, 0x43#8, 0x44#8, 0x45#8, 0x46#8, 0x47#8, 0x48#8, 0x49#8, 0x4A#8, 0x50#8,
    0x51#8, 0x52#8, 0x53#8, 0x54#8, 0x55#8, 0x56#8, 0x60#8, 0x61#8, 0x62#8, 0x63#8,
    0x64#8, 0x65#8, 0x66#8, 0x67#8, 0x68#8, 0x69#8, 0x6A#8]

/-- 10.3: a command code is listed. -/
def listedCode (b : Byte) : Bool := listedCodes.contains b

/-- A command is well formed. HO_FORCE has two rows of the table, told apart by the action byte (R105): COMMIT is 0.
A BAD_COMMAND frame carries an unlisted code (R167), and a button release without effect is of ACK or SILENCE
(R122, R123). -/
def Instr.wellFormed : Instr → Bool
  | .nop _ _ => true
  | .readMore _ _ => true
  | .portReset _ _ => true
  | .readFlags _ _ => true
  | .clearFlags _ _ => true
  | .setMask _ _ => true
  | .readConditions _ _ => true
  | .signOn _ _ => true
  | .signOff _ _ => true
  | .readSignon _ _ => true
  | .readOperator _ _ => true
  | .ackPoint _ _ => true
  | .ackArea _ _ => true
  | .ackAll _ _ => true
  | .silence _ _ => true
  | .listOpen _ _ => true
  | .listNext _ _ => true
  | .readPoint _ _ => true
  | .readArea _ _ => true
  | .readHorn _ _ => true
  | .lampTest _ _ => true
  | .shelve _ _ => true
  | .unshelve _ _ => true
  | .readShelf _ _ => true
  | .rearmGroup _ _ => true
  | .readGroup _ _ => true
  | .readFlood _ _ => true
  | .takeover _ _ => true
  | .hoOffer _ _ => true
  | .hoAccept _ _ => true
  | .hoDecline _ _ => true
  | .hoWithdraw _ _ => true
  | .hoPresent _ _ => true
  | .hoConfirm _ _ => true
  | .hoRelease _ _ => true
  | .hoUnrelease _ _ => true
  | .hoTake _ _ => true
  | .hoForceCommit _ r => r.b4 == 0#8
  | .hoForceCancel _ r => r.b4 != 0#8
  | .hoRead _ _ => true
  | .setTime _ _ => true
  | .journalStart _ _ => true
  | .journalStop _ _ => true
  | .journalClear _ _ => true
  | .journalReset _ _ => true
  | .readJournal _ _ => true
  | .readLinkCounts _ _ => true
  | .cfgPoint _ _ => true
  | .cfgArea _ _ => true
  | .cfgOperator _ _ => true
  | .cfgTiming _ _ => true
  | .cfgFlood _ _ => true
  | .cfgLinks _ _ => true
  | .cfgBoard _ _ => true
  | .cfgClock _ _ => true
  | .commitConfig _ _ => true
  | .restart _ _ => true
  | .reconfigure _ _ => true
  | .badCheck _ _ => true
  | .badCommand _ code _ => !listedCode code
  | .shortFrame _ => true
  | .powerOn => true
  | .millisecondTick _ => true
  | .secondsTick _ => true
  | .slotBoundary => true
  | .chirpEnd _ => true
  | .consoleAbsent => true
  | .escalate => true
  | .expire => true
  | .hoLapse => true
  | .linkLost => true
  | .fieldByte _ => true
  | .fieldLineError => true
  | .fieldRecord _ _ _ _ _ => true
  | .boardFrame => true
  | .deskLineChange _ _ _ => true
  | .deskAckPress _ => true
  | .deskSilencePress _ => true
  | .deskTestPress _ => true
  | .deskTestRelease _ => true
  | .deskButtonRelease _ b => b != .test
  | .journalRecordSent _ => true
  | .journalReadyResume => true
  | .filler => true
  | .journalByteSent _ => true

end Sys2Proof
end

