-- ==== Sys2Proof/Decode.lean ====
section
/-! DEFINITION. How a console frame spells a command (R166, R167, 10.3, 10.4), in both directions, and
`decodeTableWord`. The table gives no row any bits, so no word spells a command and `decodeTableWord` answers none; a
console's command comes as the eight bytes of its frame, and the other rows are events that no bytes spell. -/

namespace Sys2Proof

/-- The command that a word spells by the table's bits: the table gives none. -/
def decodeTableWord (_nbits _w : Nat) : Option Instr := none

/-- R167: the XOR of bytes. -/
def byteXor (l : List Byte) : Byte := l.foldl (· ^^^ ·) 0#8

/-- 10.3: the command of a good frame from its code; an unlisted code is BAD_COMMAND (R167). -/
def requestOf (code : Byte) (c : Console) (r : Request) : Instr :=
  match code.toNat with
  | 0x00 => .nop c r
  | 0x01 => .readMore c r
  | 0x02 => .portReset c r
  | 0x03 => .readFlags c r
  | 0x04 => .clearFlags c r
  | 0x05 => .setMask c r
  | 0x06 => .readConditions c r
  | 0x10 => .signOn c r
  | 0x11 => .signOff c r
  | 0x12 => .readSignon c r
  | 0x13 => .readOperator c r
  | 0x20 => .ackPoint c r
  | 0x21 => .ackArea c r
  | 0x22 => .ackAll c r
  | 0x23 => .silence c r
  | 0x24 => .listOpen c r
  | 0x25 => .listNext c r
  | 0x26 => .readPoint c r
  | 0x27 => .readArea c r
  | 0x28 => .readHorn c r
  | 0x29 => .lampTest c r
  | 0x30 => .shelve c r
  | 0x31 => .unshelve c r
  | 0x32 => .readShelf c r
  | 0x33 => .rearmGroup c r
  | 0x34 => .readGroup c r
  | 0x35 => .readFlood c r
  | 0x36 => .takeover c r
  | 0x40 => .hoOffer c r
  | 0x41 => .hoAccept c r
  | 0x42 => .hoDecline c r
  | 0x43 => .hoWithdraw c r
  | 0x44 => .hoPresent c r
  | 0x45 => .hoConfirm c r
  | 0x46 => .hoRelease c r
  | 0x47 => .hoUnrelease c r
  | 0x48 => .hoTake c r
  | 0x49 => if r.b4 = 0#8 then .hoForceCommit c r else .hoForceCancel c r
  | 0x4A => .hoRead c r
  | 0x50 => .setTime c r
  | 0x51 => .journalStart c r
  | 0x52 => .journalStop c r
  | 0x53 => .journalClear c r
  | 0x54 => .journalReset c r
  | 0x55 => .readJournal c r
  | 0x56 => .readLinkCounts c r
  | 0x60 => .cfgPoint c r
  | 0x61 => .cfgArea c r
  | 0x62 => .cfgOperator c r
  | 0x63 => .cfgTiming c r
  | 0x64 => .cfgFlood c r
  | 0x65 => .cfgLinks c r
  | 0x66 => .cfgBoard c r
  | 0x67 => .cfgClock c r
  | 0x68 => .commitConfig c r
  | 0x69 => .restart c r
  | 0x6A => .reconfigure c r
  | _ => .badCommand c code r

/-- R166: the command of what a port has received between the assertion and the withdrawal of its chip select: whole
bytes, and the bits of a byte begun after them. A frame of fewer than eight whole bytes, or withdrawn part-way through a
byte, is cut short; bytes after the eighth are ignored. R167: a frame whose eight bytes do not XOR to 0 has a bad
check. -/
def decodeFrame (c : Console) (whole : List Byte) (bits : Nat) : Instr :=
  if bits ≠ 0 then .shortFrame c else
  match whole with
  | b1 :: b2 :: b3 :: b4 :: b5 :: b6 :: b7 :: b8 :: _ =>
    if byteXor [b1, b2, b3, b4, b5, b6, b7, b8] = 0#8 then requestOf b1 c ⟨b2, b3, b4, b5, b6, b7⟩
    else .badCheck c b2
  | _ => .shortFrame c

/-- The console, the command code and the request of a command that a good frame spells. -/
def frameOf : Instr → Option (Console × Byte × Request)
  | .nop c r => some (c, 0x00#8, r)
  | .readMore c r => some (c, 0x01#8, r)
  | .portReset c r => some (c, 0x02#8, r)
  | .readFlags c r => some (c, 0x03#8, r)
  | .clearFlags c r => some (c, 0x04#8, r)
  | .setMask c r => some (c, 0x05#8, r)
  | .readConditions c r => some (c, 0x06#8, r)
  | .signOn c r => some (c, 0x10#8, r)
  | .signOff c r => some (c, 0x11#8, r)
  | .readSignon c r => some (c, 0x12#8, r)
  | .readOperator c r => some (c, 0x13#8, r)
  | .ackPoint c r => some (c, 0x20#8, r)
  | .ackArea c r => some (c, 0x21#8, r)
  | .ackAll c r => some (c, 0x22#8, r)
  | .silence c r => some (c, 0x23#8, r)
  | .listOpen c r => some (c, 0x24#8, r)
  | .listNext c r => some (c, 0x25#8, r)
  | .readPoint c r => some (c, 0x26#8, r)
  | .readArea c r => some (c, 0x27#8, r)
  | .readHorn c r => some (c, 0x28#8, r)
  | .lampTest c r => some (c, 0x29#8, r)
  | .shelve c r => some (c, 0x30#8, r)
  | .unshelve c r => some (c, 0x31#8, r)
  | .readShelf c r => some (c, 0x32#8, r)
  | .rearmGroup c r => some (c, 0x33#8, r)
  | .readGroup c r => some (c, 0x34#8, r)
  | .readFlood c r => some (c, 0x35#8, r)
  | .takeover c r => some (c, 0x36#8, r)
  | .hoOffer c r => some (c, 0x40#8, r)
  | .hoAccept c r => some (c, 0x41#8, r)
  | .hoDecline c r => some (c, 0x42#8, r)
  | .hoWithdraw c r => some (c, 0x43#8, r)
  | .hoPresent c r => some (c, 0x44#8, r)
  | .hoConfirm c r => some (c, 0x45#8, r)
  | .hoRelease c r => some (c, 0x46#8, r)
  | .hoUnrelease c r => some (c, 0x47#8, r)
  | .hoTake c r => some (c, 0x48#8, r)
  | .hoForceCommit c r => some (c, 0x49#8, r)
  | .hoForceCancel c r => some (c, 0x49#8, r)
  | .hoRead c r => some (c, 0x4A#8, r)
  | .setTime c r => some (c, 0x50#8, r)
  | .journalStart c r => some (c, 0x51#8, r)
  | .journalStop c r => some (c, 0x52#8, r)
  | .journalClear c r => some (c, 0x53#8, r)
  | .journalReset c r => some (c, 0x54#8, r)
  | .readJournal c r => some (c, 0x55#8, r)
  | .readLinkCounts c r => some (c, 0x56#8, r)
  | .cfgPoint c r => some (c, 0x60#8, r)
  | .cfgArea c r => some (c, 0x61#8, r)
  | .cfgOperator c r => some (c, 0x62#8, r)
  | .cfgTiming c r => some (c, 0x63#8, r)
  | .cfgFlood c r => some (c, 0x64#8, r)
  | .cfgLinks c r => some (c, 0x65#8, r)
  | .cfgBoard c r => some (c, 0x66#8, r)
  | .cfgClock c r => some (c, 0x67#8, r)
  | .commitConfig c r => some (c, 0x68#8, r)
  | .restart c r => some (c, 0x69#8, r)
  | .reconfigure c r => some (c, 0x6A#8, r)
  | .badCheck _ _ => none
  | .badCommand c code r => some (c, code, r)
  | .shortFrame _ => none
  | .powerOn => none
  | .millisecondTick _ => none
  | .secondsTick _ => none
  | .slotBoundary => none
  | .chirpEnd _ => none
  | .consoleAbsent => none
  | .escalate => none
  | .expire => none
  | .hoLapse => none
  | .linkLost => none
  | .fieldByte _ => none
  | .fieldLineError => none
  | .fieldRecord _ _ _ _ _ => none
  | .boardFrame => none
  | .deskLineChange _ _ _ => none
  | .deskAckPress _ => none
  | .deskSilencePress _ => none
  | .deskTestPress _ => none
  | .deskTestRelease _ => none
  | .deskButtonRelease _ _ => none
  | .journalRecordSent _ => none
  | .journalReadyResume => none
  | .filler => none
  | .journalByteSent _ => none

/-- 10.4: the eight bytes of a request; the check byte makes their XOR 0. -/
def requestBytes (code : Byte) (r : Request) : List Byte :=
  [code, r.tag, r.b3, r.b4, r.b5, r.b6, r.b7, byteXor [code, r.tag, r.b3, r.b4, r.b5, r.b6, r.b7]]

/-- The console and the eight bytes of the good frame that spells a command, for a command that one spells. -/
def encodeFrame (i : Instr) : Option (Console × List Byte) :=
  (frameOf i).map fun x => (x.1, requestBytes x.2.1 x.2.2)

end Sys2Proof
end

