-- ==== Sys2Proof/Config.lean ====
section
/-! DEFINITION. What the manual leaves open about the part: free values, each an opaque constant with no body, so that
no proof can rest on a number. -/

namespace Sys2Proof

/-- The byte that READ_HORN returns for a demand priority of NONE (R130). R126 names NONE and R173 gives no code
for it, so the byte is free. -/
opaque Config.demandNoneByte : Byte

end Sys2Proof
end

