-- ==== Sys2Proof/Machine/State.lean ====
section
/-! DEFINITION. The state of the DZ424 as plain data, block by block as the block overview of 00_scope lists them, and
State.reset, the part right after power-on. Two views are computed and not held, because the manual defines them from
held state: the alarm list (R41, in Machine/AlarmList.lean) and the horn demand (R126, in Machine/Outputs.lean). -/

namespace Sys2Proof.Machine

/-! ## Points (2.1) -/

/-- Priority 1 to priority 4; priority 1 is the most urgent. -/
inductive Priority where
  | p1
  | p2
  | p3
  | p4
  deriving DecidableEq, Repr

/-- The last reported level of a point's alarm condition. -/
inductive Input where
  | active
  | normal
  deriving DecidableEq, Repr

/-- How far the stored input of a point can be trusted (R28). -/
inductive Quality where
  | good
  | suspect
  | stale
  deriving DecidableEq, Repr

/-- The annunciation state of a point (R29). -/
inductive Annunciation where
  | normal
  | raised
  | standing
  | returned
  | shelved
  deriving DecidableEq, Repr

/-- The mark a first-out group gives a member (R51, R52). -/
inductive FirstMark where
  | first
  | follower
  deriving DecidableEq, Repr

/-- The acknowledgement fields of a point (2.1): ack time, console, operator and override mark. -/
structure AckInfo where
  time : Word32
  console : Console
  operator : Nat
  override : Bool
  deriving DecidableEq, Repr

/-- A point entry (2.1). `group` 0 means no group. -/
structure Point where
  configured : Bool
  area : AreaNo
  priority : Priority
  group : Fin 9
  shelvable : Bool
  input : Input
  quality : Quality
  state : Annunciation
  ackSet : List Console
  serial : Option Nat
  raiseTime : Option Word32
  ack : Option AckInfo
  firstMark : Option FirstMark
  quiet : Bool
  deriving DecidableEq, Repr

/-! ## Areas (1.1, 4.1) -/

/-- The joint ack mode of an area (R1, R18). -/
inductive JointAck where
  | either
  | bothP1
  deriving DecidableEq, Repr

/-- The attendance of an area with its unattended-since time, which is present exactly while the area is not
ATTENDED (R4). -/
inductive Attendance where
  | attended
  | unattended (since : Word32)
  | escalated (since : Word32)
  deriving DecidableEq, Repr

/-- The flood state of an area (R67). -/
inductive FloodState where
  | normal
  | flood
  deriving DecidableEq, Repr

/-- Four numbers, one for each priority: an area's unacknowledged counts (R7) and the weights W1 to W4 (R68). -/
structure PerPriority where
  p1 : Nat
  p2 : Nat
  p3 : Nat
  p4 : Nat
  deriving DecidableEq, Repr

/-- An area entry of the authority table with the flood monitor's values of the area (1.1, 4.1). -/
structure Area where
  reqClass : Fin 7
  jointAck : JointAck
  gate : Fin 3
  tOn : Nat
  tOffWritten : Nat
  tOffApplied : Nat
  owner : Console
  attendance : Attendance
  record : Option RecordNo
  unack : PerPriority
  standing : Nat
  shelved : Nat
  notGood : Nat
  load : Nat
  flood : FloodState
  deriving DecidableEq, Repr

/-! ## Operators (1.4) -/

/-- The role of an operator (R10). -/
inductive Role where
  | trainee
  | operator
  | supervisor
  deriving DecidableEq, Repr

/-- An operator entry of the roster (1.4). -/
structure Operator where
  number : Nat
  role : Role
  classes : ClassSet
  console : Option Console
  deriving DecidableEq, Repr

/-! ## First-out groups and the shelf (3.1, 3.2) -/

/-- A group entry: the first point is present exactly while TRIPPED (R50). -/
inductive Group where
  | armed
  | tripped (first : PointNo)
  deriving DecidableEq, Repr

/-- A shelf entry (3.2). -/
structure ShelfEntry where
  point : PointNo
  expiry : Word32
  console : Console
  operator : Nat
  deriving DecidableEq, Repr

/-! ## Handover records (5.1) -/

/-- The phase of a handover record (R83). -/
inductive Phase where
  | free
  | offered
  | reviewing
  deriving DecidableEq, Repr

/-- A party's notify mode (R98). -/
inductive Notify where
  | word
  | items
  deriving DecidableEq, Repr

/-- How a record ended (R85). -/
inductive HoOutcome where
  | committed
  | superseded
  | withdrawn
  | declined
  | lapsed
  | aborted
  deriving DecidableEq, Repr

/-- The cause of a record's end (R85). -/
inductive HoCause where
  | take
  | force
  | outgoing
  | incoming
  | offerTimeout
  | reviewTimeout
  | signOff
  | supervisor
  deriving DecidableEq, Repr

/-- A handover record (5.1). -/
structure HoRecord where
  phase : Phase
  outConsole : Option Console
  outOperator : Option Nat
  inConsole : Option Console
  inOperator : Option Nat
  areas : AreaSet
  presented : ItemSet
  confirmed : ItemSet
  outNotify : Notify
  outWatch : ItemSet
  inNotify : Notify
  inWatch : ItemSet
  release : Bool
  timer : Nat
  held : Bool
  lastOutcome : Option (HoOutcome × HoCause)
  deriving DecidableEq, Repr

/-! ## Presence monitor (6.1, 6.3) -/

/-- A console's presence value: the deadline of a PRESENT console runs only IN_SERVICE, and an ABSENT console has an
absent-since time (R110). -/
inductive Presence where
  | present (deadline : Option Word32)
  | absent (since : Word32)
  deriving DecidableEq, Repr

/-- What the presence monitor and the roster hold for a console: its presence, its last-heard time (R110) and its
signed-on operator's slot (1.4). -/
structure Desk where
  presence : Presence
  lastHeard : Word32
  signedOn : Option SlotNo
  deriving DecidableEq, Repr

/-- A desk line: the pin's level, and the debounce of R121. -/
structure DeskLine where
  line : Level
  debounced : Level
  candidate : Level
  since : Word32
  deriving DecidableEq, Repr

/-- The three lines of a desk. The set of desks whose TEST button is held (R123) is read from `test.debounced`. -/
structure DeskLines where
  ack : DeskLine
  silence : DeskLine
  test : DeskLine
  deriving DecidableEq, Repr

/-! ## Annunciator outputs (Chapter 7) -/

/-- A console's horn: its scope (R124), its silenced set (R125), its chirp timer's deadline while running (R128), and
its output pin, driven or released (R127). -/
structure Horn where
  scope : AreaSet
  silenced : List PointNo
  chirp : Option Word32
  out : Bool
  deriving DecidableEq, Repr

/-- The slot generator (R127). `boundaryDue` is the model's own: the count has returned to 0 at this millisecond
tick and the SLOT_BOUNDARY event has yet to step the slot. -/
structure SlotGenerator where
  slot : Nat
  count : Nat
  boundaryDue : Bool
  deriving DecidableEq, Repr

/-- Whether the board scanner sends frames, sends the blank frame that R132 sends before it stops, or has stopped. -/
inductive Scanner where
  | stopped
  | blanking
  | scanning
  deriving DecidableEq, Repr

/-- A tile's lamp word (R131). -/
structure LampWord where
  red : Bool
  amber : Bool
  white : Bool
  blue : Bool
  deriving DecidableEq, Repr

/-- The board scanner (R132): the milliseconds within the frame in progress, whose line periods are 5 ms each, and the
words of that frame by tile; the words that the chain of 32 drivers holds, the driver nearest the part first, and the
lamps as the last latch left them; and the outputs: the bits that the data output sends in the line period in progress,
and whether the latch output is pulsed in it. `frameDue` is the model's own: a frame has ended at this millisecond tick
and the BOARD_FRAME event has yet to latch it. -/
structure Board where
  scanner : Scanner
  count : Nat
  frameDue : Bool
  words : Vector LampWord 32
  chain : Vector LampWord 32
  lamps : Vector LampWord 32
  data : List Bool
  latch : Bool
  deriving DecidableEq, Repr

/-- The lamp-test state; RUNNING holds the test frame number and the frames owed (R136). -/
inductive LampTest where
  | idle
  | pending
  | running (frame : Nat) (owed : Nat)
  deriving DecidableEq, Repr

/-- The kind of test pattern (R137, R138). -/
inductive PatternKind where
  | bars
  | fixed
  deriving DecidableEq, Repr

/-- The lamp-test pattern that CFG_BOARD writes (R139): bar count and width, FIXED length and codes. -/
structure Pattern where
  kind : PatternKind
  bars : Nat
  width : Nat
  length : Nat
  codes : Vector (Fin 13) 12
  deriving DecidableEq, Repr

/-! ## Field receiver (Chapter 8) -/

/-- The framing state with the bytes it holds (8.2). -/
inductive Framing where
  | locked (held : List Byte)
  | searching (window : List Byte)
  deriving DecidableEq, Repr

/-- The link state: its deadline while OK and IN_SERVICE, and the time it was lost, from which R148 computes the time
lost. -/
inductive Link where
  | ok (deadline : Option Word32)
  | lost (since : Word32)
  deriving DecidableEq, Repr

/-- The four link counters (R149), each 0 to 65535. -/
structure LinkCounts where
  framing : Nat
  check : Nat
  gap : Nat
  unknown : Nat
  deriving DecidableEq, Repr

/-- The field receiver (8.2). -/
structure Receiver where
  framing : Framing
  expected : Option Byte
  link : Link
  lastValid : Word32
  counts : LinkCounts
  deriving DecidableEq, Repr

/-! ## Journal (Chapter 9) -/

/-- The kinds of journal record (R151). -/
inductive JournalKind where
  | raise
  | pointReturn
  | ack
  | ackPartial
  | firstOut
  | shelve
  | unshelve
  | expire
  | floodOn
  | floodOff
  | hoOffer
  | hoAccept
  | hoEnd
  | signOn
  | signOff
  | takeover
  | absent
  | present
  | escalate
  | unsignedButton
  | gap
  | linkLost
  | linkOk
  | loss
  | timeSet
  | restart
  | filler
  deriving DecidableEq, Repr

/-- The two classes of journal record (R152). -/
inductive JournalClass where
  | accountable
  | routine
  deriving DecidableEq, Repr

/-- A journal record: the fields of 10.4 with the class that R152 fixes. The sync and the check follow from the rest. -/
structure JournalRecord where
  kind : JournalKind
  cls : JournalClass
  time : Word32
  subject : BitVec 16
  console : Console
  qualifier : BitVec 6
  operator : BitVec 16
  value : Word32
  deriving DecidableEq, Repr

/-- The stream state (R158). -/
inductive Stream where
  | stopped
  | streaming
  | stopping
  deriving DecidableEq, Repr

/-- The unit in transmission: the head record of the FIFO, or a FILLER record (R158). -/
inductive JournalUnit where
  | record
  | filler (r : JournalRecord)
  deriving DecidableEq, Repr

/-- What the transmit line is sending: nothing, a byte of the unit in transmission, or the byte that was under way
when JOURNAL_RESET cut its unit short and that is finished all the same (R163), held because its unit is gone. -/
inductive LineByte where
  | none
  | unit
  | tail (byte : Byte)
  deriving DecidableEq, Repr

/-- The journal (9.3, 9.4). `ready` is the printer's ready input; `rate` is the rate CFG_LINKS wrote and `unitRate`
the rate the unit in transmission began with (R158), both as codes 0 to 4. The rest is the model's own: `readySeen`,
the level of the ready input that the last millisecond tick saw; `resumeDue`, that it saw ready asserted while a byte
waited, which the JOURNAL_READY_RESUME event has still to begin (R158); and `lossEvents`, changes of the loss condition
that point 510 has still to be given (R157), empty between two steps. -/
structure Journal where
  fifo : List JournalRecord
  dropRoutine : Nat
  dropAccountable : Nat
  stream : Stream
  unit : Option JournalUnit
  bytesSent : Nat
  lineByte : LineByte
  quiet : Bool
  ready : Bool
  readySeen : Bool
  resumeDue : Bool
  rate : Nat
  unitRate : Nat
  lossEvents : List Input
  deriving DecidableEq, Repr

/-! ## Console ports (Chapter 10) -/

/-- The status codes (10.4). -/
inductive Status where
  | ok
  | idle
  | badCheck
  | badCommand
  | badOperand
  | wrongMode
  | notSignedOn
  | role
  | noAuthority
  | notQualified
  | unknownOperator
  | elsewhere
  | occupied
  | state
  | full
  | inHandover
  | held
  | notReady
  | notShelvable
  | duplicate
  | endOfList
  deriving DecidableEq, Repr

/-- A response: the fields of 10.4; its check byte follows from them (R167). -/
structure Response where
  status : Status
  tag : Byte
  r1 : Byte
  r2 : Byte
  r3 : Byte
  r4 : Byte
  r5 : Byte
  deriving DecidableEq, Repr

/-- The scope of a list cursor (R42). -/
inductive Scope where
  | own
  | all
  | area (a : AreaNo)
  deriving DecidableEq, Repr

/-- The key of an alarm list entry: priority, raise serial, point number (R41). -/
structure ListKey where
  priority : Nat
  serial : Nat
  point : Nat
  deriving DecidableEq, Repr

/-- A port's list cursor (R42). -/
inductive Cursor where
  | closed
  | beforeFirst (scope : Scope)
  | atKey (scope : Scope) (last : ListKey)
  deriving DecidableEq, Repr

/-- A console port: pending response, result record, event flags, mask, list cursor, and the interrupt line's level,
driven or released (R166, R168, R169, R170, R42). -/
structure Port where
  response : Response
  result : List Byte
  flags : FlagSet
  mask : FlagSet
  cursor : Cursor
  irq : Bool
  deriving DecidableEq, Repr

/-! ## Time base and settings (Chapter 11) -/

/-- The device state (R174). -/
inductive DeviceState where
  | configuring
  | inService
  deriving DecidableEq, Repr

/-- The settings that CFG_TIMING and CFG_LINKS write, apart from the journal rate (R175): timeouts in seconds, the
absence timeout in half-seconds, and the baud rate as its code 0 to 3. -/
structure Timing where
  offerTimeout : Nat
  reviewTimeout : Nat
  absenceHalfSeconds : Nat
  escalationDelay : Nat
  fieldBaud : Nat
  linkLossTime : Nat
  deriving DecidableEq, Repr

/-- What is left of a seconds tick once the count of a handover record has brought its timer to 0 (R89): that record,
which the HO_LAPSE event ends before the records after it are counted, and whether the decay of the areas follows the
counts (R80). The model's own (DESIGN CHOICE, notes/assumptions/8.md). -/
structure TickRest where
  record : RecordNo
  decayLast : Bool
  deriving DecidableEq, Repr

/-- The time base (R153, R176). `secondsDue`, `fillerDue` and `rest` are the model's own: a seconds tick has fallen at
this millisecond tick, and the SECONDS_TICK event, the journal sender's own step at that tick (R159), or what a lapse
has left of the tick, is still to come. -/
structure TimeBase where
  refDivide : Nat
  divideCount : Nat
  runClock : Word32
  milli : Nat
  offset : Word32
  secondsDue : Bool
  fillerDue : Bool
  rest : Option TickRest
  deriving DecidableEq, Repr

/-! ## The part -/

/-- The state of the part. `pending` is the queue of commands waiting, first in, first out. -/
structure State where
  pending : List Instr
  mode : DeviceState
  time : TimeBase
  timing : Timing
  points : Vector Point 512
  serialNext : Nat
  areas : Vector Area 24
  weights : PerPriority
  decayShift : Nat
  roster : Vector (Option Operator) 64
  desks : Vector Desk 4
  lines : Vector DeskLines 4
  groups : Vector Group 8
  shelf : List ShelfEntry
  records : Vector HoRecord 4
  horns : Vector Horn 4
  slots : SlotGenerator
  board : Board
  lampTest : LampTest
  pattern : Pattern
  receiver : Receiver
  journal : Journal
  ports : Vector Port 4
  commonAlarm : Bool
  deriving DecidableEq, Repr

/-- The faults of a step. The manual describes no event that stops the part, so there is none, and no step of the
model answers one: this is safe, since a claim about a fault has nothing to speak of. -/
inductive Fault where
  deriving DecidableEq, Repr

/-- The refusals of a step. -/
inductive Refusal where
  /-- Raised by an arm of exec whose command has no meaning yet; safe, since the step then has no next state. -/
  | notModelled (mnemonic : String)
  deriving DecidableEq, Repr

/-! ## The values after power-on -/

/-- R25: every point entry at power-on. -/
def Point.reset : Point :=
  { configured := false, area := 0, priority := .p4, group := 0, shelvable := false, input := .normal
    quality := .stale, state := .normal, ackSet := [], serial := none, raiseTime := none, ack := none
    firstMark := none, quiet := false }

/-- R1, R2, R3, R4, R7, R67, R70: every area entry at power-on. -/
def Area.reset : Area :=
  { reqClass := 0, jointAck := .either, gate := 0, tOn := 2000, tOffWritten := 800, tOffApplied := 800, owner := 0
    attendance := .unattended 0#32, record := none, unack := ⟨0, 0, 0, 0⟩, standing := 0, shelved := 0
    notGood := 0, load := 0, flood := .normal }

/-- R84: every handover record at power-on. -/
def HoRecord.reset : HoRecord :=
  { phase := .free, outConsole := none, outOperator := none, inConsole := none, inOperator := none, areas := 0#24
    presented := 0#16, confirmed := 0#16, outNotify := .word, outWatch := 0#16, inNotify := .word, inWatch := 0#16
    release := false, timer := 0, held := false, lastOutcome := none }

/-- R110, R11: every console at power-on. -/
def Desk.reset : Desk :=
  { presence := .present none, lastHeard := 0#32, signedOn := none }

/-- R121: a desk line taken from the line as it stands, debounced RELEASED. -/
def DeskLine.reset (line : Level) (now : Word32) : DeskLine :=
  { line := line, debounced := .released, candidate := line, since := now }

/-- R131: the blank word. -/
def LampWord.blank : LampWord := { red := false, amber := false, white := false, blue := false }

/-- R166: the IDLE response. -/
def Response.idle : Response :=
  { status := .idle, tag := 0#8, r1 := 0#8, r2 := 0#8, r3 := 0#8, r4 := 0#8, r5 := 0#8 }

/-- R166, R168, R169, R170, R42: every port at power-on. -/
def Port.reset : Port :=
  { response := .idle, result := [], flags := 0#9, mask := 0#9, cursor := .closed, irq := false }

/-- R139: the lamp-test pattern at power-on. -/
def Pattern.reset : Pattern :=
  { kind := .bars, bars := 4, width := 2, length := 4, codes := #v[1, 4, 7, 10, 0, 0, 0, 0, 0, 0, 0, 0] }

/-- R141: the field receiver at power-on. -/
def Receiver.reset : Receiver :=
  { framing := .searching [], expected := none, link := .ok none, lastValid := 0#32, counts := ⟨0, 0, 0, 0⟩ }

/-- R165: the journal at power-on, with the ready input's level as given. Rate code 1 is 19,200 baud (R175). -/
def Journal.reset (ready : Bool) : Journal :=
  { fifo := [], dropRoutine := 0, dropAccountable := 0, stream := .stopped, unit := none, bytesSent := 0
    lineByte := .none, quiet := false, ready := ready, readySeen := false, resumeDue := false, rate := 1, unitRate := 1
    lossEvents := [] }

/-- R175: the CFG_TIMING and CFG_LINKS settings at power-on. Baud code 1 is 115,200. -/
def Timing.reset : Timing :=
  { offerTimeout := 300, reviewTimeout := 1800, absenceHalfSeconds := 4, escalationDelay := 60, fieldBaud := 1
    linkLossTime := 3 }

/-- R153, R176, R180: the time base at power-on. -/
def TimeBase.reset : TimeBase :=
  { refDivide := 4096, divideCount := 0, runClock := 0#32, milli := 0, offset := 0#32, secondsDue := false
    fillerDue := false, rest := none }

/-- R132: the board at power-on: the blank frame is under way with its first lead line of 8 blank words, and the lamps
show what the drivers hold. -/
def Board.reset (chain lamps : Vector LampWord 32) : Board :=
  { scanner := .blanking, count := 0, frameDue := false, words := Vector.replicate 32 .blank, chain := chain
    lamps := lamps, data := List.replicate 32 false, latch := false }

/-- R124, R125, R127, R128: a console's horn at power-on, with its scope. -/
def Horn.reset (scope : AreaSet) : Horn := { scope := scope, silenced := [], chirp := none, out := false }

/-- R180: the power-on values, over what stands outside the part: the levels of the twelve desk lines, the ready
input, and the words and lamps that the board's drivers hold. Console 0 owns every area, so its horn scope holds all
24 (R124). -/
def State.powerOnValues (pending : List Instr) (lines : Vector DeskLines 4) (ready : Bool)
    (chain lamps : Vector LampWord 32) : State :=
  { pending := pending
    mode := .configuring
    time := .reset
    timing := .reset
    points := Vector.replicate 512 .reset
    serialNext := 1
    areas := Vector.replicate 24 .reset
    weights := ⟨400, 200, 100, 50⟩
    decayShift := 6
    roster := Vector.replicate 64 none
    desks := Vector.replicate 4 .reset
    lines := lines
    groups := Vector.replicate 8 .armed
    shelf := []
    records := Vector.replicate 4 .reset
    horns := #v[.reset (BitVec.allOnes 24), .reset 0#24, .reset 0#24, .reset 0#24]
    slots := ⟨0, 0, false⟩
    board := .reset chain lamps
    lampTest := .idle
    pattern := .reset
    receiver := .reset
    journal := .reset ready
    ports := Vector.replicate 4 .reset
    commonAlarm := false }

/-- A desk line with its button up, as the internal pull-up leaves it (R121). -/
def DeskLines.up : DeskLines :=
  { ack := .reset .released 0#32, silence := .reset .released 0#32, test := .reset .released 0#32 }

/-- The part right after power-on (R180), nobody pressing a button. The manual gives no value for the ready input or
for what the drivers hold before the first latch: they are withdrawn and dark here (DESIGN CHOICE,
notes/assumptions/3.md and 4.md). -/
def State.reset : State :=
  State.powerOnValues [] (Vector.replicate 4 DeskLines.up) false (Vector.replicate 32 .blank)
    (Vector.replicate 32 .blank)

end Sys2Proof.Machine
end

