-- ==== Sys2Proof/Machine/Operands.lean ====
section
/-! DEFINITION. Operands and result records (R173): how numbers, sets and enumerated values are read from a request's
bytes 3 to 7, how they are laid out in a result record, and the responses of a port (R166 to R168). -/

namespace Sys2Proof.Machine

/-! ## Reading operands -/

/-- R173: a two-byte number, high byte first. -/
def num16 (hi lo : Byte) : Nat := hi.toNat * 256 + lo.toNat

/-- R173: a 32-bit value, high byte first. -/
def word32 (b1 b2 b3 b4 : Byte) : Word32 := b1 ++ b2 ++ b3 ++ b4

/-- R173: an area set takes three bytes, member 0 in the least significant bit of the last. -/
def areaSet (b1 b2 b3 : Byte) : AreaSet := b1 ++ b2 ++ b3

/-- R173: an item set takes two bytes. -/
def itemSet (b1 b2 : Byte) : ItemSet := b1 ++ b2

/-- R173: a flag set takes two bytes, NEW_ALARM in bit 0 through JOURNAL in bit 8; the other bits are ignored. -/
def flagSet (b1 b2 : Byte) : FlagSet := (b1 ++ b2 : BitVec 16).setWidth 9

/-- The point of a number that has passed its range check. -/
def pointOf (n : Nat) : PointNo := Fin.ofNat 512 n

/-- The area of a number that has passed its range check. -/
def areaOf (n : Nat) : AreaNo := Fin.ofNat 24 n

/-- The console of a number that has passed its range check. -/
def consoleOf (n : Nat) : Console := Fin.ofNat 4 n

/-- The handover record of a number that has passed its range check. -/
def recordOf (n : Nat) : RecordNo := Fin.ofNat 4 n

/-- The roster slot of a number that has passed its range check. -/
def slotOf (n : Nat) : SlotNo := Fin.ofNat 64 n

/-- The group entry of a group number that has passed its range check: group 1 has index 0. -/
def groupOf (n : Nat) : GroupNo := Fin.ofNat 8 (n - 1)

/-- A priority number, 1 to 4, as a priority. -/
def priorityOf : Nat → Option Priority
  | 1 => some .p1
  | 2 => some .p2
  | 3 => some .p3
  | 4 => some .p4
  | _ => none

/-- R173, 1.4: the roles in the order of their table. -/
def roleOf : Nat → Option Role
  | 0 => some .trainee
  | 1 => some .operator
  | 2 => some .supervisor
  | _ => none

/-- R173, 1.1: EITHER then BOTH_P1. -/
def jointAckOf : Nat → Option JointAck
  | 0 => some .either
  | 1 => some .bothP1
  | _ => none

/-- R173, R136: BARS then FIXED. -/
def patternKindOf : Nat → Option PatternKind
  | 0 => some .bars
  | 1 => some .fixed
  | _ => none

/-- R173: the notify mode in bit 7 of the packed byte (0 WORD, 1 ITEMS). -/
def notifyOf (b : Byte) : Notify := if b.getLsbD 7 then .items else .word

/-- R173: the record in bits 0 and 1 of the packed byte of HO_PRESENT and HO_CONFIRM. -/
def packedRecord (b : Byte) : Nat := b.toNat % 4

/-- The high four bits of a byte. -/
def highNibble (b : Byte) : Nat := b.toNat / 16

/-- The low four bits of a byte. -/
def lowNibble (b : Byte) : Nat := b.toNat % 16

/-! ## Codes (R173: an enumerated value is coded from 0 in the order of the list or table that defines it) -/

/-- The priority number, 1 to 4. -/
def Priority.number : Priority → Nat
  | .p1 => 1
  | .p2 => 2
  | .p3 => 3
  | .p4 => 4

/-- 2.1: ACTIVE, NORMAL. -/
def Input.code : Input → Nat
  | .active => 0
  | .normal => 1

/-- 2.1: GOOD, SUSPECT, STALE. -/
def Quality.code : Quality → Nat
  | .good => 0
  | .suspect => 1
  | .stale => 2

/-- 10.4: NORMAL 0, RAISED 1, STANDING 2, RETURNED 3, SHELVED 4. -/
def Annunciation.code : Annunciation → Nat
  | .normal => 0
  | .raised => 1
  | .standing => 2
  | .returned => 3
  | .shelved => 4

/-- 2.1: FIRST, FOLLOWER or none, in that order. -/
def firstMarkCode : Option FirstMark → Nat
  | some .first => 0
  | some .follower => 1
  | none => 2

/-- 1.1: EITHER, BOTH_P1. -/
def JointAck.code : JointAck → Nat
  | .either => 0
  | .bothP1 => 1

/-- 1.1: ATTENDED, UNATTENDED, ESCALATED. -/
def Attendance.code : Attendance → Nat
  | .attended => 0
  | .unattended _ => 1
  | .escalated _ => 2

/-- R4: the unattended-since time, present exactly while attendance is not ATTENDED. -/
def Attendance.since : Attendance → Option Word32
  | .attended => none
  | .unattended t => some t
  | .escalated t => some t

/-- 4.1: NORMAL, FLOOD. -/
def FloodState.code : FloodState → Nat
  | .normal => 0
  | .flood => 1

/-- 1.4: TRAINEE, OPERATOR, SUPERVISOR. -/
def Role.code : Role → Nat
  | .trainee => 0
  | .operator => 1
  | .supervisor => 2

/-- R83: FREE, OFFERED, REVIEWING. -/
def Phase.code : Phase → Nat
  | .free => 0
  | .offered => 1
  | .reviewing => 2

/-- R98: WORD 0, ITEMS 1. -/
def Notify.code : Notify → Nat
  | .word => 0
  | .items => 1

/-- R85: the outcomes in the order of its table. -/
def HoOutcome.code : HoOutcome → Nat
  | .committed => 0
  | .superseded => 1
  | .withdrawn => 2
  | .declined => 3
  | .lapsed => 4
  | .aborted => 5

/-- R85: the causes in the order of its table. -/
def HoCause.code : HoCause → Nat
  | .take => 0
  | .force => 1
  | .outgoing => 2
  | .incoming => 3
  | .offerTimeout => 4
  | .reviewTimeout => 5
  | .signOff => 6
  | .supervisor => 7

/-- R136: IDLE, PENDING, RUNNING. -/
def LampTest.code : LampTest → Nat
  | .idle => 0
  | .pending => 1
  | .running _ _ => 2

/-- R136: BARS, FIXED. -/
def PatternKind.code : PatternKind → Nat
  | .bars => 0
  | .fixed => 1

/-- 8.2: LOCKED, SEARCHING. -/
def Framing.code : Framing → Nat
  | .locked _ => 0
  | .searching _ => 1

/-- 8.2: OK, LOST. -/
def Link.code : Link → Nat
  | .ok _ => 0
  | .lost _ => 1

/-- R158: STOPPED, STREAMING, STOPPING. -/
def Stream.code : Stream → Nat
  | .stopped => 0
  | .streaming => 1
  | .stopping => 2

/-- R164: none, RECORD, FILLER. -/
def unitCode : Option JournalUnit → Nat
  | none => 0
  | some .record => 1
  | some (.filler _) => 2

/-- R174: CONFIGURING, IN_SERVICE. -/
def DeviceState.code : DeviceState → Nat
  | .configuring => 0
  | .inService => 1

/-- 10.4: the status codes. -/
def Status.code : Status → Byte
  | .ok => 0x00#8
  | .idle => 0x01#8
  | .badCheck => 0x02#8
  | .badCommand => 0x03#8
  | .badOperand => 0x04#8
  | .wrongMode => 0x05#8
  | .notSignedOn => 0x06#8
  | .role => 0x07#8
  | .noAuthority => 0x08#8
  | .notQualified => 0x09#8
  | .unknownOperator => 0x0A#8
  | .elsewhere => 0x0B#8
  | .occupied => 0x0C#8
  | .state => 0x0D#8
  | .full => 0x0E#8
  | .inHandover => 0x0F#8
  | .held => 0x10#8
  | .notReady => 0x11#8
  | .notShelvable => 0x12#8
  | .duplicate => 0x13#8
  | .endOfList => 0x14#8

/-! ## Building result records -/

/-- R173: a number whose range fits in a byte. -/
def byte1 (n : Nat) : List Byte := [BitVec.ofNat 8 n]

/-- R173: a larger number, two bytes high byte first. -/
def byte2 (n : Nat) : List Byte := [BitVec.ofNat 8 (n / 256), BitVec.ofNat 8 n]

/-- R173: a 32-bit value, four bytes high byte first. -/
def byte4 (w : Word32) : List Byte :=
  [w.extractLsb' 24 8, w.extractLsb' 16 8, w.extractLsb' 8 8, w.extractLsb' 0 8]

/-- R173: an area set, three bytes. -/
def areaBytes (a : AreaSet) : List Byte := [a.extractLsb' 16 8, a.extractLsb' 8 8, a.extractLsb' 0 8]

/-- R173: an item set, two bytes. -/
def itemBytes (a : ItemSet) : List Byte := [a.extractLsb' 8 8, a.extractLsb' 0 8]

/-- R173: a flag set, two bytes. -/
def flagBytes (f : FlagSet) : List Byte := itemBytes (f.setWidth 16)

/-- A yes-or-no field, or the release given or not given (R99), one byte: 1 for yes, 0 for no. R173 gives these fields no
code of their own, and its order of words would make yes 0: DESIGN CHOICE, notes/assumptions/14.md. -/
def boolByte (b : Bool) : List Byte := [if b then 1#8 else 0#8]

/-- R173: a field that may be absent is preceded by a presence byte; absent, its `width` bytes are 0. -/
def optBytes {α : Type} (width : Nat) (f : α → List Byte) : Option α → List Byte
  | some x => 1#8 :: f x
  | none => 0#8 :: List.replicate width 0#8

/-! ## Replies and checks -/

/-- What a command's rule answers: a status and the result record it leaves (R168). -/
structure Reply where
  status : Status
  record : List Byte
  deriving DecidableEq, Repr

/-- One check of a request: whether it fails, and the reply it then gives. -/
abbrev Check := Bool × Reply

/-- A check that refuses with a status; a refused request leaves a record of 0 bytes (R168). -/
def fails (b : Bool) (st : Status) : Check := (b, ⟨st, []⟩)

/-- A check that refuses with NOT_READY and its reason byte: 1 RELEASE, 2 CHECKLIST, 3 GATE (R168). -/
def notReady (b : Bool) (reason : Byte) : Check := (b, ⟨.notReady, [reason]⟩)

/-- A request that fails a check is answered with the first check that fails, in the order listed (00_scope, Taken and
refused). -/
def firstFailure : List Check → Option Reply
  | [] => none
  | (b, rp) :: rest => if b then some rp else firstFailure rest

/-- A refused request leaves the state as it was; a taken one has its effects (00_scope, Taken and refused). -/
def decided (s : State) (checks : List Check) (k : State × Reply) : State × Reply :=
  match firstFailure checks with
  | some rp => (s, rp)
  | none => k

/-- A taken request: its state, status OK and its result record. -/
def taken (s : State) (record : List Byte) : State × Reply := (s, ⟨.ok, record⟩)

/-- R168: the response carries bytes 1 to 5 of a record, each byte beyond its length 0. -/
def responseOf (st : Status) (tag : Byte) (record : List Byte) : Response :=
  { status := st, tag := tag, r1 := record.getD 0 0#8, r2 := record.getD 1 0#8, r3 := record.getD 2 0#8
    r4 := record.getD 3 0#8, r5 := record.getD 4 0#8 }

/-- 10.4, R167: the eight bytes of a response as shifted out; its check byte makes their XOR 0. -/
def Response.bytes (r : Response) : List Byte :=
  [r.status.code, r.tag, r.r1, r.r2, r.r3, r.r4, r.r5,
    r.status.code ^^^ r.tag ^^^ r.r1 ^^^ r.r2 ^^^ r.r3 ^^^ r.r4 ^^^ r.r5]

/-- R166: what a port shifts out against the bytes of a frame, counted from 0: its pending response from byte 1, and
0x00 in place of every byte after the eighth. -/
def Response.byteOut (r : Response) (k : Nat) : Byte := r.bytes.getD k 0#8

end Sys2Proof.Machine
end

