-- ==== Sys2Proof/Machine/Flags.lean ====
section
/-! DEFINITION. Event flags, masks and the interrupt line (10.2), and the tables' readers and writers they rest on. -/

namespace Sys2Proof.Machine

/-! ## Tables -/

/-- The entries of a table with their numbers, in ascending number. -/
def entries {α : Type} {n : Nat} (v : Vector α n) : List (Fin n × α) := (List.finRange n).zip v.toList

/-- A table with every entry changed. -/
def mapTable {α β : Type} {n : Nat} (f : α → β) (v : Vector α n) : Vector β n := ⟨⟨v.toList.map f⟩, by simp⟩

/-- A table of four entries, given by number. -/
def table4 {α : Type} (f : Fin 4 → α) : Vector α 4 := #v[f 0, f 1, f 2, f 3]

/-- The four consoles, and likewise the four handover records, in ascending number. -/
def allFour : List (Fin 4) := [0, 1, 2, 3]

/-- The 24 areas in ascending number. -/
def allAreas : List AreaNo := List.finRange 24

/-- A console port. -/
def State.port (s : State) (c : Console) : Port := s.ports[c]

/-- The state with a port changed. -/
def State.setPort (s : State) (c : Console) (p : Port) : State := { s with ports := s.ports.set c p }

/-! ## Event flags -/

/-- The nine event flags, in the order of the flag table (10.2). -/
inductive EventFlag where
  | newAlarm
  | ackPartner
  | handover
  | checklist
  | shelf
  | flood
  | presence
  | link
  | journal
  deriving DecidableEq, Repr

/-- R173: a flag's place in a flag set. -/
def EventFlag.bit : EventFlag → FlagSet
  | .newAlarm => 1#9 <<< 0
  | .ackPartner => 1#9 <<< 1
  | .handover => 1#9 <<< 2
  | .checklist => 1#9 <<< 3
  | .shelf => 1#9 <<< 4
  | .flood => 1#9 <<< 5
  | .presence => 1#9 <<< 6
  | .link => 1#9 <<< 7
  | .journal => 1#9 <<< 8

/-- R169: setting a flag at a port, whatever its mask. -/
def setFlag (f : EventFlag) (s : State) (c : Console) : State :=
  s.setPort c { s.port c with flags := (s.port c).flags ||| f.bit }

/-- Setting a flag at each of a list of ports. -/
def setFlagAt (f : EventFlag) (cs : List Console) (s : State) : State := cs.foldl (setFlag f) s

/-- R31, R72, R76: the consoles whose horn scope holds an area. -/
def scopeHolders (s : State) (a : AreaNo) : List Console := allFour.filter fun c => s.horns[c].scope.getLsbD a

/-- Setting a flag at the port of each console whose horn scope holds an area. -/
def setFlagInScope (f : EventFlag) (s : State) (a : AreaNo) : State := setFlagAt f (scopeHolders s a) s

/-- R170: the interrupt line is driven while a set flag has its mask open. -/
def Port.lineDriven (p : Port) : Bool := p.flags &&& p.mask != 0#9

end Sys2Proof.Machine
end

