-- ==== Sys2Proof/Machine/Ops.lean ====
section
/-! DEFINITION. The named operations over the tables, the clocks and the journal: what every block of the part asks of
another (00_scope, How the blocks work together). -/

namespace Sys2Proof.Machine

/-! ## Readers and writers -/

/-- A point entry. -/
def State.point (s : State) (p : PointNo) : Point := s.points[p]

/-- An area entry. -/
def State.area (s : State) (a : AreaNo) : Area := s.areas[a]

/-- The state with an area entry changed. -/
def State.setArea (s : State) (a : AreaNo) (e : Area) : State := { s with areas := s.areas.set a e }

/-- A handover record. -/
def State.record (s : State) (r : RecordNo) : HoRecord := s.records[r]

/-- The state with a handover record changed. -/
def State.setRecord (s : State) (r : RecordNo) (h : HoRecord) : State := { s with records := s.records.set r h }

/-- A console's presence and sign-on. -/
def State.desk (s : State) (c : Console) : Desk := s.desks[c]

/-- The state with a console's presence and sign-on changed. -/
def State.setDesk (s : State) (c : Console) (d : Desk) : State := { s with desks := s.desks.set c d }

/-- A console's horn. -/
def State.horn (s : State) (c : Console) : Horn := s.horns[c]

/-- The state with a console's horn changed. -/
def State.setHorn (s : State) (c : Console) (h : Horn) : State := { s with horns := s.horns.set c h }

/-- The state with a point's fields changed where no count depends on them. -/
def State.putPoint (s : State) (p : PointNo) (q : Point) : State := { s with points := s.points.set p q }

/-- The part is CONFIGURING. -/
def State.configuring (s : State) : Bool := s.mode == .configuring

/-- The part is IN_SERVICE. -/
def State.inService (s : State) : Bool := s.mode == .inService

/-! ## Clocks (R153) and deadlines (R110) -/

/-- R153: the journal clock is the run clock plus the offset, modulo 2^32. -/
def State.journalClock (s : State) : Word32 := s.time.runClock + s.time.offset

/-- R110, R57: a deadline is reached when the run clock minus the deadline, modulo 2^32, is below 2^31. -/
def reached (now deadline : Word32) : Bool := decide ((now - deadline).toNat < 2147483648)

/-- A deadline a number of milliseconds from a time, modulo 2^32. -/
def after (t : Word32) (ms : Nat) : Word32 := t + BitVec.ofNat 32 ms

/-! ## Operators (1.4) -/

/-- The operator signed on at a console. -/
def State.operatorAt (s : State) (c : Console) : Option Operator :=
  (s.desk c).signedOn.bind fun k => s.roster[k]

/-- The number of the operator signed on at a console, or 0 (R151). -/
def State.operatorNumber (s : State) (c : Console) : Nat := ((s.operatorAt c).map (·.number)).getD 0

/-- The operator signed on at a console is a TRAINEE. -/
def State.traineeAt (s : State) (c : Console) : Bool := (s.operatorAt c).any (·.role == .trainee)

/-- The operator signed on at a console is a SUPERVISOR. -/
def State.supervisorAt (s : State) (c : Console) : Bool := (s.operatorAt c).any (·.role == .supervisor)

/-- Nobody is signed on at a console. -/
def State.nobodyAt (s : State) (c : Console) : Bool := (s.operatorAt c).isNone

/-- R5: an operator is qualified for an area of a required class. -/
def qualified (op : Operator) (cls : Fin 7) : Bool := op.role != .trainee && op.classes.getLsbD cls

/-- The operator signed on at a console is qualified for an area. -/
def State.qualifiedAt (s : State) (c : Console) (a : AreaNo) : Bool :=
  (s.operatorAt c).any fun op => qualified op (s.area a).reqClass

/-- The console is PRESENT. -/
def State.presentAt (s : State) (c : Console) : Bool :=
  match (s.desk c).presence with
  | .present _ => true
  | .absent _ => false

/-! ## Areas -/

/-- An area set holds an area. -/
def inSet (a : AreaNo) (set : AreaSet) : Bool := set.getLsbD a

/-- The areas of a set, in ascending number. -/
def members (set : AreaSet) : List AreaNo := allAreas.filter fun a => inSet a set

/-- The area set given by a test of each area. -/
def areasWhere (f : AreaNo → Bool) : AreaSet := BitVec.ofFnLE f

/-- The number of areas in a list that pass a test. -/
def countAreas (f : AreaNo → Bool) (l : List AreaNo) : Nat := (l.filter f).length

/-- R4: an area's attendance is ESCALATED. -/
def Area.isEscalated (e : Area) : Bool :=
  match e.attendance with
  | .escalated _ => true
  | _ => false

/-- R4: an area's attendance is ATTENDED. -/
def Area.isAttended (e : Area) : Bool :=
  match e.attendance with
  | .attended => true
  | _ => false

/-- R116, R118: at least one area is ESCALATED. -/
def State.anyEscalated (s : State) : Bool := s.areas.toList.any (·.isEscalated)

/-- R114: at least one console is ABSENT. -/
def State.anyAbsent (s : State) : Bool := allFour.any fun c => !s.presentAt c

/-- R83: a record is live in OFFERED and REVIEWING. -/
def HoRecord.live (h : HoRecord) : Bool := h.phase != .free

/-- The live record that holds an area is in REVIEWING and has the console as its incoming console. -/
def State.incomingIn (s : State) (c : Console) (a : AreaNo) : Bool :=
  match (s.area a).record with
  | some r => (s.record r).phase == .reviewing && (s.record r).inConsole == some c
  | none => false

/-- The live record that holds an area is in REVIEWING and has the console as its outgoing console. -/
def State.outgoingIn (s : State) (c : Console) (a : AreaNo) : Bool :=
  match (s.area a).record with
  | some r => (s.record r).phase == .reviewing && (s.record r).outConsole == some c
  | none => false

/-! ## Per-priority numbers -/

/-- The number of a priority. -/
def PerPriority.get (w : PerPriority) : Priority → Nat
  | .p1 => w.p1
  | .p2 => w.p2
  | .p3 => w.p3
  | .p4 => w.p4

/-- The numbers with one replaced. -/
def PerPriority.put (w : PerPriority) (p : Priority) (n : Nat) : PerPriority :=
  match p with
  | .p1 => { w with p1 := n }
  | .p2 => { w with p2 := n }
  | .p3 => { w with p3 := n }
  | .p4 => { w with p4 := n }

/-! ## Aggregates (R7, R39) -/

/-- R7: the point is RAISED or RETURNED. -/
def Point.unacknowledged (q : Point) : Bool := q.state == .raised || q.state == .returned

/-- R7: a configured point of an area counts in the area's unacknowledged count of a priority. -/
def countsUnack (q : Point) (a : AreaNo) (p : Priority) : Bool :=
  q.configured && q.area == a && q.priority == p && q.unacknowledged

/-- R7: a configured point of an area counts in the area's standing count. -/
def countsStanding (q : Point) (a : AreaNo) : Bool := q.configured && q.area == a && q.state == .standing

/-- R7: a configured point of an area counts in the area's shelved count. -/
def countsShelved (q : Point) (a : AreaNo) : Bool := q.configured && q.area == a && q.state == .shelved

/-- R7: a configured point of an area counts in the area's not-GOOD count. -/
def countsNotGood (q : Point) (a : AreaNo) : Bool := q.configured && q.area == a && q.quality != .good

/-- R39: a count goes up by one, down by one, or stays, as a point joins what it counts, leaves it, or neither. -/
def bump (was now : Bool) (n : Nat) : Nat :=
  match was, now with
  | false, true => n + 1
  | true, false => n - 1
  | _, _ => n

/-- R39: an area's seven counts when a point changes from `old` to `new`. -/
def recount (a : AreaNo) (old new : Point) (e : Area) : Area :=
  { e with
    unack :=
      { p1 := bump (countsUnack old a .p1) (countsUnack new a .p1) e.unack.p1
        p2 := bump (countsUnack old a .p2) (countsUnack new a .p2) e.unack.p2
        p3 := bump (countsUnack old a .p3) (countsUnack new a .p3) e.unack.p3
        p4 := bump (countsUnack old a .p4) (countsUnack new a .p4) e.unack.p4 }
    standing := bump (countsStanding old a) (countsStanding new a) e.standing
    shelved := bump (countsShelved old a) (countsShelved new a) e.shelved
    notGood := bump (countsNotGood old a) (countsNotGood new a) e.notGood }

/-- The counts of one area kept through a point's change. -/
def State.recountArea (s : State) (a : AreaNo) (old new : Point) : State := s.setArea a (recount a old new (s.area a))

/-- A point's change with its area's counts kept at the same event (R39); a point that changes its area by CFG_POINT
leaves one area's counts and joins the other's. -/
def State.setPoint (s : State) (p : PointNo) (q : Point) : State :=
  let old := s.point p
  let s1 := s.recountArea old.area old q
  let s2 := if q.area = old.area then s1 else s1.recountArea q.area old q
  s2.putPoint p q

/-! ## Silenced sets (R125) -/

/-- R125: a point that enters or leaves RAISED leaves the silenced set of every console. -/
def unsilence (p : PointNo) (s : State) : State :=
  { s with horns := mapTable (fun h => { h with silenced := h.silenced.filter (· != p) }) s.horns }

/-! ## Horn scopes (R124) -/

/-- R124: the areas of a console's horn scope: those it owns, those of a REVIEWING record in which it is the incoming
console, and, for console 0, every ESCALATED area. -/
def hornScope (s : State) (c : Console) : AreaSet :=
  areasWhere fun a => (s.area a).owner == c || s.incomingIn c a || (c == 0 && (s.area a).isEscalated)

/-- R124: every horn scope recomputed. -/
def recomputeScopes (s : State) : State :=
  { s with horns := table4 fun c => { s.horn c with scope := hornScope s c } }

/-! ## Journal records (R151, 10.4) -/

/-- R151: a record stamped with the journal clock of the event. -/
def journalRecord (s : State) (kind : JournalKind) (cls : JournalClass) (subject : Nat) (c : Console)
    (qualifier : BitVec 6) (op : Nat) (value : Word32) : JournalRecord :=
  { kind := kind, cls := cls, time := s.journalClock, subject := BitVec.ofNat 16 subject, console := c
    qualifier := qualifier, operator := BitVec.ofNat 16 op, value := value }

/-- 10.4: byte 12 of a journal record's value. 10.4 names no content for the other three bytes, and the model writes 0
there (DESIGN CHOICE, notes/assumptions/31.md). -/
def value12 (n : Nat) : Word32 := BitVec.ofNat 8 n ++ 0#24

/-- Bytes 12 and 13, and bytes 14 and 15, of a journal record's value. -/
def valueHalves (hi lo : Nat) : Word32 := BitVec.ofNat 16 hi ++ BitVec.ofNat 16 lo

/-- Byte 12, and bytes 13 to 15, of a journal record's value. -/
def valueWithSet (n : Nat) (set : AreaSet) : Word32 := BitVec.ofNat 8 n ++ set

/-- R157: loss is pending while either drop counter is above 0. -/
def Journal.lossPending (j : Journal) : Bool := decide (0 < j.dropRoutine) || decide (0 < j.dropAccountable)

/-- R155: a class's limit on the number of records the FIFO holds. -/
def classLimit : JournalClass → Nat
  | .routine => 224
  | .accountable => 256

/-- R155, R156: a counter of 0 to 65535 that stays at 65535. -/
def saturate16 (n : Nat) : Nat := min 65535 n

/-- R158: a unit becomes the unit in transmission, with the ready input at a level at that moment. Its first byte begins
at once, provided the input is asserted and no byte is under way on the line, and it goes at the rate last written. -/
def Journal.beginAt (j : Journal) (ready : Bool) (u : JournalUnit) : Journal :=
  { j with
    unit := some u
    bytesSent := 0
    lineByte := if j.lineByte = .none && ready then .unit else j.lineByte
    unitRate := j.rate }

/-- R158: a unit begins, with the ready input as it stands. -/
def Journal.begin (j : Journal) (u : JournalUnit) : Journal := j.beginAt j.ready u

/-- R158: in STREAMING with no unit in transmission and a record at the head of the FIFO, that record begins. -/
def Journal.kick (j : Journal) : Journal :=
  if j.stream = .streaming && j.unit.isNone && !j.fifo.isEmpty then j.begin .record else j

/-- R155: an accepted record joins the tail; R159: the quiet flag is cleared. -/
def Journal.accept (j : Journal) (r : JournalRecord) : Journal :=
  { j with fifo := j.fifo ++ [r], quiet := false }.kick

/-- R156: a record that is not accepted increments the drop counter of its class. -/
def Journal.drop (j : Journal) (cls : JournalClass) : Journal :=
  match cls with
  | .routine => { j with dropRoutine := saturate16 (j.dropRoutine + 1) }
  | .accountable => { j with dropAccountable := saturate16 (j.dropAccountable + 1) }

/-- R156: the LOSS record, which carries the two drop counts. -/
def lossRecord (s : State) (kind : JournalKind) (cls : JournalClass) (subject : Nat) (op : Nat) : JournalRecord :=
  journalRecord s kind cls subject 0 0#6 op (valueHalves s.journal.dropRoutine s.journal.dropAccountable)

/-- R157: a change of the loss condition sets JOURNAL at every port and is to be given to point 510; in CONFIGURING
changes of a source's condition are dropped (R26). -/
def lossChange (i : Input) (s : State) : State :=
  let s1 := setFlagAt .journal allFour s
  if s.inService then { s1 with journal := { s1.journal with lossEvents := s1.journal.lossEvents ++ [i] } } else s1

/-- R155: a record offered by its class's limit alone. A drop that makes loss pending is a change of condition. -/
def offerAlone (s : State) (r : JournalRecord) : State :=
  if s.journal.fifo.length < classLimit r.cls then { s with journal := s.journal.accept r }
  else
    let s1 := { s with journal := s.journal.drop r.cls }
    if s.journal.lossPending then s1 else lossChange .active s1

/-- R155, R156: a record offered to the FIFO. While loss is pending it is taken only with a LOSS record ahead of it,
and only when there is room for both. -/
def offerRecord (s : State) (r : JournalRecord) : State :=
  if s.journal.lossPending then
    if s.journal.fifo.length + 1 < classLimit r.cls then
      let loss := lossRecord s .loss .accountable 0 0
      let j := { s.journal.accept loss with dropRoutine := 0, dropAccountable := 0 }
      lossChange .normal { s with journal := j.accept r }
    else { s with journal := s.journal.drop r.cls }
  else offerAlone s r

/-- R157: setting the JOURNAL event at the ports of all four consoles. -/
def journalEvent (s : State) : State := setFlagAt .journal allFour s

end Sys2Proof.Machine
end

