-- ==== Sys2Proof/Machine/Sequencer.lean ====
section
/-! DEFINITION. The sequencer with its neighbours (Chapters 2 to 4): raises, returns, point-input events, first-out
marks, the flood step, item 0 of live records, and acknowledgements.

Every definition that produces a journal record takes the way a record is offered as its argument `off`. The journal
gives point 510 an input event at each change of its loss condition, once the offer is complete, but a change that
arises while an event of point 510 is being handled waits for that handling to end (R157): so point 510's own events
are handled with `offerRecord`, which leaves a change waiting, and every other event with `offer`, which gives point
510 its waiting events at once. -/

namespace Sys2Proof.Machine

/-- The way a block offers a journal record. -/
abbrev Offer := State → JournalRecord → State

/-- R151: the owner console of an area and the operator signed on there, or 0, as a record of the area names them. -/
def areaRecord (s : State) (kind : JournalKind) (cls : JournalClass) (subject : Nat) (a : AreaNo)
    (qualifier : BitVec 6) (value : Word32) : JournalRecord :=
  journalRecord s kind cls subject (s.area a).owner qualifier (s.operatorNumber (s.area a).owner) value

/-! ## Checklist events (R98) -/

/-- R94: the checklist is complete when the confirmed set equals the presented set. -/
def HoRecord.complete (h : HoRecord) : Bool := h.confirmed == h.presented

/-- R98: whether a party with this notify mode and watch set is told of a change of the item sets. -/
def toldOfChange (mode : Notify) (watch : ItemSet) (before now : HoRecord) : Bool :=
  match mode with
  | .word => before.complete != now.complete
  | .items => watch &&& ((before.presented ^^^ now.presented) ||| (before.confirmed ^^^ now.confirmed)) != 0#16

/-- Setting a flag at a party's port, where the record has that party. -/
def setFlagParty (f : EventFlag) (c : Option Console) (s : State) : State :=
  match c with
  | some c => setFlag f s c
  | none => s

/-- R98: the CHECKLIST events of a change of a REVIEWING record's item sets, each party judged by its notify mode and
watch set as they stand after the change. -/
def checklistEvents (before now : HoRecord) (s : State) : State :=
  if now.phase = .reviewing then
    let s1 := if toldOfChange now.outNotify now.outWatch before now then setFlagParty .checklist now.outConsole s else s
    if toldOfChange now.inNotify now.inWatch before now then setFlagParty .checklist now.inConsole s1 else s1
  else s

/-- R97: a raise in an area removes item 0 from the confirmed set of the live record that holds the area. -/
def clearItem0 (s : State) (a : AreaNo) : State :=
  match (s.area a).record with
  | none => s
  | some r =>
    let h := s.record r
    let h1 := { h with confirmed := h.confirmed &&& ~~~1#16 }
    if h.live then checklistEvents h h1 (s.setRecord r h1) else s

/-! ## The flood step of a raise (R71 to R73) -/

/-- R79: a record is held while at least one area of its set is in FLOOD. -/
def anyFlood (s : State) (set : AreaSet) : Bool := (members set).any fun a => (s.area a).flood == .flood

/-- R79: the held field of the REVIEWING record that holds an area, judged afresh. -/
def judgeHold (s : State) (a : AreaNo) : State :=
  match (s.area a).record with
  | none => s
  | some r =>
    let h := s.record r
    if h.phase = .reviewing then s.setRecord r { h with held := anyFlood s h.areas } else s

/-- R71, R72: the weight of a raise is added to its area's load, and an area in NORMAL whose load has reached its T_on
enters FLOOD, with its record, its events and its hold. -/
def floodRaise (off : Offer) (s : State) (a : AreaNo) (p : Priority) : State :=
  let e := s.area a
  let e1 := { e with load := min 32767 (e.load + s.weights.get p) }
  let s1 := s.setArea a e1
  if e1.flood = .normal && decide (e1.tOn ≤ e1.load) then
    let s2 := s1.setArea a { e1 with flood := .flood }
    let s3 := off s2 (areaRecord s2 .floodOn .routine a a 0#6 (valueHalves e1.load e1.tOn))
    judgeHold (setFlagInScope .flood s3 a) a
  else s1

/-- R73: a raise is quiet when its area is in FLOOD after the onset test and its priority is 3 or 4. -/
def quietNow (s : State) (a : AreaNo) (p : Priority) : Bool :=
  (s.area a).flood == .flood && (p == .p3 || p == .p4)

/-! ## First-out groups (R51 to R53) -/

/-- The group entry a point belongs to: a configured point of group 1 to 8 (R50). -/
def memberGroup (q : Point) : Option GroupNo :=
  if q.configured && q.group != 0 then some (groupOf q.group) else none

/-- A point is a member of a group. -/
def isMember (g : GroupNo) (q : Point) : Bool := memberGroup q == some g

/-- R51, R52: the first-out unit's share of a raise. Byte 15 of a FIRST_OUT record, which 10.4 gives no content, is 0
(DESIGN CHOICE, notes/assumptions/31.md). -/
def firstOutRaise (off : Offer) (s : State) (p : PointNo) : State :=
  let q := s.point p
  match memberGroup q with
  | none => s
  | some g =>
    match s.groups[g] with
    | .armed =>
      let s1 := { s.putPoint p { q with firstMark := some .first } with groups := s.groups.set g (.tripped p) }
      off s1 (areaRecord s1 .firstOut .accountable (g + 1) q.area 0#6
        (BitVec.ofNat 16 p ++ BitVec.ofNat 8 q.area ++ 0#8))
    | .tripped _ =>
      match q.firstMark with
      | none => s.putPoint p { q with firstMark := some .follower }
      | some _ => s

/-- R53, R54: a group rearmed: ARMED with no first point, and every member's mark cleared. -/
def rearm (g : GroupNo) (s : State) : State :=
  { s with
    groups := s.groups.set g .armed
    points := mapTable (fun q => if isMember g q then { q with firstMark := none } else q) s.points }

/-- R53: told of a grouped point's step to NORMAL, the first-out unit rearms a TRIPPED group whose members are all
NORMAL. -/
def toldNormal (s : State) (p : PointNo) : State :=
  match memberGroup (s.point p) with
  | none => s
  | some g =>
    match s.groups[g] with
    | .armed => s
    | .tripped _ =>
      if s.points.toList.all fun q => !isMember g q || q.state == .normal then rearm g s else s

/-! ## Raises (R30, R31) -/

/-- R31: the raise serial counter after a raise: one more, holding at 4,294,967,295. -/
def nextSerial (n : Nat) : Nat := if n < 4294967295 then n + 1 else n

/-- R30: a point at the start of an episode. -/
def Point.startEpisode (q : Point) (serial : Nat) (now : Word32) : Point :=
  { q with state := .raised, serial := some serial, raiseTime := some now, ackSet := [], ack := none }

/-- R128: an unquiet priority-4 raise sets the chirp timer of each console whose scope holds the area running for
500 ms. -/
def startChirps (s : State) (a : AreaNo) : State :=
  { s with
    horns := mapTable
      (fun h => if h.scope.getLsbD a then { h with chirp := some (after s.time.runClock 500) } else h) s.horns }

/-- R31 step 7, 10.4: the RAISE record of a point. R27 has this record show the quality GOOD or SUSPECT, and 10.4 gives
it no place for one: the model follows R31 and 10.4 and writes none (DESIGN CHOICE, notes/assumptions/28.md). -/
def raiseRecord (s : State) (p : PointNo) : JournalRecord :=
  let q := s.point p
  let mark : BitVec 2 := match q.firstMark with
    | none => 0#2
    | some .first => 1#2
    | some .follower => 2#2
  areaRecord s .raise (if q.priority = .p1 then .accountable else .routine) p q.area
    (BitVec.ofBool q.quiet ++ mark ++ BitVec.ofNat 3 q.priority.number)
    (BitVec.ofNat 8 q.area ++ BitVec.ofNat 24 (q.serial.getD 0))

/-- R30, R31 step 1: the point is made RAISED as a new episode under the counter's serial, which then goes up. -/
def startRaise (s : State) (p : PointNo) : State :=
  unsilence p
    { s.setPoint p ((s.point p).startEpisode s.serialNext s.journalClock) with serialNext := nextSerial s.serialNext }

/-- R73: a point's quiet mark written. -/
def markQuiet (s : State) (p : PointNo) (quiet : Bool) : State := s.putPoint p { s.point p with quiet := quiet }

/-- R31 steps 5 and 6, R128: NEW_ALARM and the chirp of an unquiet raise. -/
def announceRaise (s : State) (a : AreaNo) (p : Priority) (quiet : Bool) : State :=
  if quiet then s
  else if p = .p4 then startChirps (setFlagInScope .newAlarm s a) a
  else setFlagInScope .newAlarm s a

/-- R31: an entry of a configured point to RAISED, handed to the neighbours in the order of its steps 1 to 7. -/
def raisePoint (off : Offer) (s : State) (p : PointNo) : State :=
  let a := (s.point p).area
  let pr := (s.point p).priority
  let s2 := floodRaise off (startRaise s p) a pr
  let quiet := quietNow s2 a pr
  let s4 := clearItem0 (firstOutRaise off (markQuiet s2 p quiet) p) a
  let s6 := announceRaise s4 a pr quiet
  off s6 (raiseRecord s6 p)

/-! ## Returns and point-input events (R27, R29, R32, R33, R35) -/

/-- R32, R33: the RETURN record of a point, with the state it left. -/
def returnRecord (s : State) (p : PointNo) (left : Annunciation) : JournalRecord :=
  areaRecord s .pointReturn .routine p (s.point p).area 0#6 (value12 left.code)

/-- R30: a point whose episode ends in NORMAL keeps its raise time and acknowledgement fields. -/
def Point.endEpisode (q : Point) : Point := { q with state := .normal, serial := none, quiet := false }

/-- R29: the step of a configured point whose stored input has just changed. -/
def stepInput (off : Offer) (s : State) (p : PointNo) : State :=
  let q := s.point p
  match q.input, q.state with
  | .active, .normal => raisePoint off s p
  | .active, .returned => raisePoint off s p
  | .normal, .raised =>
    let s1 := unsilence p (s.setPoint p { q with state := .returned })
    off s1 (returnRecord s1 p .raised)
  | .normal, .standing =>
    let s1 := s.setPoint p q.endEpisode
    toldNormal (off s1 (returnRecord s1 p .standing)) p
  | _, _ => s

/-- R27: a point-input event. -/
def pointInput (off : Offer) (s : State) (p : PointNo) (i : Input) (ql : Quality) : State :=
  let q := s.point p
  if q.configured then
    let s1 := s.setPoint p { q with quality := ql }
    if i = q.input then s1 else stepInput off (s1.putPoint p { s1.point p with input := i }) p
  else s

/-! ## Point 510 and the offer of a record (R157) -/

/-- R157: point 510 is given its waiting events one after another, each handled whole before the next. Between two
NORMAL events a LOSS record has been placed, so the 256 places of the FIFO bound the events of one offer well below
the 600 allowed here. -/
def give510 : Nat → State → State
  | 0, s => s
  | n + 1, s =>
    match s.journal.lossEvents with
    | [] => s
    | i :: rest =>
      give510 n (pointInput offerRecord { s with journal := { s.journal with lossEvents := rest } } 510 i .good)

/-- Point 510 given every waiting event. -/
def settle510 (s : State) : State := give510 600 s

/-- R155 to R157: a record offered to the journal, with point 510's events given once the offer is complete. -/
def offer (s : State) (r : JournalRecord) : State := settle510 (offerRecord s r)

/-- R157: an event of a point handled whole: point 510's own events leave its waiting changes until the handling has
ended, and every other point's events give them at each offer. -/
def handled (p : PointNo) (f : Offer → State → State) (s : State) : State :=
  if p = 510 then settle510 (f offerRecord s) else f offer s

/-- R26: an input event of a system point, with quality GOOD; dropped while CONFIGURING. -/
def systemPoint (s : State) (p : PointNo) (i : Input) : State :=
  if s.inService then handled p (fun off s => pointInput off s p i .good) s else s

/-! ## Ack authority and acknowledgements (1.6, R34) -/

/-- R17: the ack standing of a console in an area. -/
inductive Standing where
  | sole
  | party
  | none
  deriving DecidableEq, Repr

/-- R17: the ack standing of a console in an area, from the area entry as it stands. -/
def ackStanding (s : State) (c : Console) (a : AreaNo) : Standing :=
  let e := s.area a
  match e.record with
  | none => if e.owner = c then .sole else .none
  | some r =>
    let h := s.record r
    if h.phase = .reviewing then
      if h.outConsole = some c || h.inConsole = some c then .party else .none
    else if e.owner = c then .sole else .none

/-- R20: ACK_PARTNER at each console of an ack set that holds a console other than the one completing it. -/
def ackPartnerEvents (c : Console) (set : List Console) (s : State) : State :=
  if set.any (· != c) then setFlagAt .ackPartner set s else s

/-- R34: a point as its acknowledgement leaves it: RAISED to STANDING, and RETURNED to NORMAL with its episode ended. -/
def Point.acknowledge (q : Point) (info : AckInfo) : Point :=
  let q1 := if q.state = .raised then { q with state := .standing } else q.endEpisode
  { q1 with ackSet := [], ack := some info }

/-- R34, 10.4: the ACK record of a completed acknowledgement, with the state reached. R21 has the override mark in the
record's value field, and 10.4 in bit 7 of its qualifier byte: the model follows 10.4 (DESIGN CHOICE,
notes/assumptions/29.md). -/
def ackRecord (s : State) (p : PointNo) (c : Console) (op : Nat) (override : Bool) : JournalRecord :=
  journalRecord s .ack .accountable p c (BitVec.ofBool override ++ 0#5) op (value12 (s.point p).state.code)

/-- R34: the point as an acknowledgement that completes in the name of a console and operator leaves it. -/
def acknowledged (s : State) (p : PointNo) (c : Console) (op : Nat) (override : Bool) : Point :=
  (s.point p).acknowledge { time := s.journalClock, console := c, operator := op, override := override }

/-- R34, R125: ACK_PARTNER, then the point's step, which takes it out of every silenced set. -/
def stepAck (s : State) (p : PointNo) (c : Console) (op : Nat) (override : Bool) : State :=
  unsilence p ((ackPartnerEvents c (s.point p).ackSet s).setPoint p (acknowledged s p c op override))

/-- R34: an acknowledgement completes, its record offered the way `off` does. -/
def completeAckWith (off : Offer) (s : State) (p : PointNo) (c : Console) (op : Nat) (override : Bool) : State :=
  let s1 := stepAck s p c op override
  let s2 := off s1 (ackRecord s1 p c op override)
  if (acknowledged s p c op override).state = .normal then toldNormal s2 p else s2

/-- R34: an acknowledgement of a RAISED or RETURNED point completes in the name of a console and operator. -/
def completeAck (s : State) (p : PointNo) (c : Console) (op : Nat) (override : Bool) : State :=
  handled p (fun off s => completeAckWith off s p c op override) s

/-- R18, R20: a partial acknowledgement by one party of the record that holds the point's area. The bytes of its record's
value after byte 12 are 0 (`value12`; DESIGN CHOICE, notes/assumptions/31.md). -/
def partialAck (s : State) (p : PointNo) (c : Console) : State :=
  let q := s.point p
  let s1 := s.putPoint p { q with ackSet := c :: q.ackSet }
  let s2 := offer s1 (journalRecord s1 .ackPartial .accountable p c 0#6 (s.operatorNumber c) (value12 q.state.code))
  match (s.area q.area).record with
  | none => s2
  | some r =>
    let h := s.record r
    setFlagParty .ackPartner (if h.outConsole = some c then h.inConsole else h.outConsole) s2

/-- What an acknowledgement of a point comes to (R18). -/
inductive AckResult where
  | completed
  | recorded
  | passed
  deriving DecidableEq, Repr

/-- R18: the outcome of an acknowledgement without the override flag, by a console with standing in the area. -/
def ackResult (s : State) (p : PointNo) (c : Console) : AckResult :=
  let q := s.point p
  if ackStanding s c q.area = .party && (s.area q.area).jointAck = .bothP1 && q.priority = .p1 then
    if q.ackSet.contains c then .passed
    else if q.ackSet.isEmpty then .recorded
    else .completed
  else .completed

/-- R18: an acknowledgement by a console with standing, in the name of the operator signed on there. -/
def settleAck (s : State) (p : PointNo) (c : Console) : State :=
  match ackResult s p c with
  | .completed => completeAck s p c (s.operatorNumber c) false
  | .recorded => partialAck s p c
  | .passed => s

/-- A running count of acknowledgements completed and recorded. -/
structure AckTally where
  state : State
  completed : Nat
  recorded : Nat

/-- R37: one visit of ACK_AREA or ACK_ALL. A point that has left RAISED and RETURNED is passed over. -/
def visitAck (c : Console) (t : AckTally) (p : PointNo) : AckTally :=
  if (t.state.point p).unacknowledged then
    let s1 := settleAck t.state p c
    match ackResult t.state p c with
    | .completed => { t with state := s1, completed := t.completed + 1 }
    | .recorded => { t with state := s1, recorded := t.recorded + 1 }
    | .passed => t
  else t

/-- R37, R38: the points to visit: every configured RAISED or RETURNED point whose area passes a test, at the
request's arrival, in ascending number. -/
def ackVisits (s : State) (f : AreaNo → Bool) : List PointNo :=
  ((entries s.points).filter fun x => x.2.configured && x.2.unacknowledged && f x.2.area).map (·.1)

/-- R37, R38: the visits made in turn. -/
def ackPoints (s : State) (c : Console) (f : AreaNo → Bool) : AckTally :=
  (ackVisits s f).foldl (visitAck c) { state := s, completed := 0, recorded := 0 }

/-- R38: the visits of ACK_ALL from a console, standing decided per area at the request's arrival. -/
def ackAllFrom (s : State) (c : Console) : AckTally := ackPoints s c fun a => ackStanding s c a != .none

end Sys2Proof.Machine
end

