-- ==== Sys2Proof/Machine/Attendance.lean ====
section
/-! DEFINITION. Attendance, escalation and presence (R4 to R6, R110 to R120): the attendance test and its
re-evaluation, the end of an escalation, and the arrival of a good frame. -/

namespace Sys2Proof.Machine

/-- R5: the attendance test of an area. -/
def attendanceTest (s : State) (a : AreaNo) : Bool :=
  let owner := (s.area a).owner
  (s.presentAt owner && s.qualifiedAt owner a) ||
    allFour.any fun c => s.incomingIn c a && s.presentAt c && s.qualifiedAt c a

/-- The state with an area's attendance changed. -/
def State.setAttendance (s : State) (a : AreaNo) (t : Attendance) : State :=
  s.setArea a { s.area a with attendance := t }

/-- R117: an ESCALATED area becomes ATTENDED. -/
def endEscalation (s : State) (a : AreaNo) : State :=
  let s1 := recomputeScopes (s.setAttendance a .attended)
  let s2 := setFlag .presence (setFlag .presence s1 0) (s1.area a).owner
  if s2.anyEscalated then s2 else systemPoint s2 508 .normal

/-- R4: an area's attendance re-evaluated. -/
def reevaluate (s : State) (a : AreaNo) : State :=
  match (s.area a).attendance, attendanceTest s a with
  | .attended, false => s.setAttendance a (.unattended s.time.runClock)
  | .unattended _, true => s.setAttendance a .attended
  | .escalated _, true => endEscalation s a
  | _, _ => s

/-- R6: areas re-evaluated in the order given, which is ascending area number. -/
def reevaluateAll (s : State) (l : List AreaNo) : State := l.foldl reevaluate s

/-- R6: the areas re-evaluated at a sign-on, a sign-off or a change of presence of a console: those it owns, and those
of a REVIEWING record in which it is incoming. -/
def areasOfConsole (s : State) (c : Console) : List AreaNo :=
  allAreas.filter fun a => (s.area a).owner == c || s.incomingIn c a

/-- R110, R115: the absence timeout in milliseconds. -/
def Timing.absenceMs (t : Timing) : Nat := t.absenceHalfSeconds * 500

/-- R111: the last-heard time and, IN_SERVICE, the presence deadline of a console heard now. -/
def State.heard (s : State) (c : Console) : State :=
  let deadline := if s.inService then some (after s.time.runClock s.timing.absenceMs) else none
  s.setDesk c { s.desk c with presence := .present deadline, lastHeard := s.time.runClock }

/-- R113: a good frame from an ABSENT console, with its absent-since time. -/
def returnConsole (s : State) (c : Console) (since : Word32) : State :=
  let s1 := s.heard c
  let s2 := offer s1 (journalRecord s1 .present .accountable c c 0#6 (s.operatorNumber c) since)
  let s3 := setFlagAt .presence allFour s2
  let s4 := reevaluateAll s3 (areasOfConsole s3 c)
  if s4.anyAbsent then s4 else systemPoint s4 509 .normal

/-- R111, R113: what the presence monitor does at the arrival of a frame whose check is good, before the frame's
command is handled. -/
def frameArrives (c : Console) (s : State) : State :=
  match (s.desk c).presence with
  | .present _ => s.heard c
  | .absent since => returnConsole s c since

/-- R112: a PRESENT console's deadline has been reached. -/
def absenceDue (s : State) (c : Console) : Bool :=
  match (s.desk c).presence with
  | .present (some d) => s.inService && reached s.time.runClock d
  | _ => false

/-- R112: a console becomes ABSENT. -/
def becomeAbsent (s : State) (c : Console) : State :=
  let before := s.anyAbsent
  let heard := (s.desk c).lastHeard
  let s1 := s.setDesk c { s.desk c with presence := .absent s.time.runClock }
  let s2 := offer s1 (journalRecord s1 .absent .accountable c c 0#6 (s.operatorNumber c) heard)
  let s3 := setFlagAt .presence (allFour.filter (· != c)) s2
  let s4 := reevaluateAll s3 (areasOfConsole s3 c)
  if before then s4 else systemPoint s4 509 .active

/-- R115: an UNATTENDED area's escalation deadline has been reached. -/
def escalationDue (s : State) (a : AreaNo) : Bool :=
  match (s.area a).attendance with
  | .unattended since => s.inService && reached s.time.runClock (after since (s.timing.escalationDelay * 1000))
  | _ => false

/-- R116: why the owner console leaves its area unattended: 0 ABSENT, 1 NOBODY, 2 NOT_QUALIFIED. -/
def escalationReason (s : State) (owner : Console) : BitVec 2 :=
  if !s.presentAt owner then 0#2 else if s.nobodyAt owner then 1#2 else 2#2

/-- R116 steps 1 and 2: the area becomes ESCALATED and joins console 0's horn scope. -/
def stepEscalated (s : State) (a : AreaNo) : State :=
  recomputeScopes (s.setAttendance a (.escalated ((s.area a).attendance.since.getD 0#32)))

/-- R116, 10.4: the ESCALATE record of an area, with the reason of its owner console in bits 2 and 3 of byte 9. -/
def escalateRecord (s : State) (a : AreaNo) : JournalRecord :=
  areaRecord s .escalate .accountable a a (0#4 ++ escalationReason s (s.area a).owner)
    ((s.area a).attendance.since.getD 0#32)

/-- R116: an UNATTENDED area becomes ESCALATED. -/
def escalateArea (s : State) (a : AreaNo) : State :=
  let s1 := stepEscalated s a
  let s2 := offer s1 (escalateRecord s1 a)
  let s3 := setFlag .presence (setFlag .presence s2 0) (s.area a).owner
  if s.anyEscalated then s3 else systemPoint s3 508 .active

/-- R119: the common alarm line is driven while an ESCALATED area is owned by console 0, or while console 0 is ABSENT
and an area is ESCALATED. -/
def commonAlarmDriven (s : State) : Bool :=
  s.areas.toList.any fun e => e.isEscalated && (e.owner == 0 || !s.presentAt 0)

end Sys2Proof.Machine
end

