-- ==== Sys2Proof/Machine/Outputs.lean ====
section
/-! DEFINITION. The outputs of the part (Chapters 6, 7 and 10): the horn demand and the horn outputs, the common alarm
line, the interrupt lines, the board's data and latch (R132), the console data outputs, and `settle`, which drives every
pin from the state an event has left. -/

namespace Sys2Proof.Machine

/-- R126: a point is in the horn demand of a console. -/
def inDemand (s : State) (c : Console) (p : PointNo) (q : Point) : Bool :=
  q.configured && q.state == .raised && !q.quiet && (s.horn c).scope.getLsbD q.area &&
    !(s.horn c).silenced.contains p

/-- R126: the horn demand of a console, in ascending point number. -/
def hornDemand (s : State) (c : Console) : List (PointNo × Point) :=
  (entries s.points).filter fun x => inDemand s c x.1 x.2

/-- R126: the demand priority, absent for NONE. -/
def demandPriority (s : State) (c : Console) : Option Priority :=
  let d := hornDemand s c
  [Priority.p1, .p2, .p3, .p4].find? fun p => d.any fun x => x.2.priority == p

/-- R127, R128: whether a demand priority calls for sound in a slot. -/
def soundsIn (demand : Option Priority) (slot : Nat) (chirping : Bool) : Bool :=
  match demand with
  | some .p1 => true
  | some .p2 => decide (slot % 4 < 2)
  | some .p3 => decide (slot < 4)
  | some .p4 => chirping
  | none => false

/-- R127: the horn output of a console is driven. -/
def hornDriven (s : State) (c : Console) : Bool :=
  soundsIn (demandPriority s c) s.slots.slot (s.horn c).chirp.isSome

/-- R131: the four bits of a lamp word in the order shifted. -/
def LampWord.bits (w : LampWord) : List Bool := [w.red, w.amber, w.white, w.blue]

/-- R132: the words that a line period of a frame sends, in the order shifted: a lead line of 8 blank words in periods 0
and 1, lines 3 to 0 in periods 2 to 5, each from its highest tile down, and none in the latch line. -/
def lineWords (words : Vector LampWord 32) (period : Nat) : List LampWord :=
  if period < 2 then List.replicate 8 .blank
  else if period < 6 then ((words.toList.drop (8 * (5 - period))).take 8).reverse
  else []

/-- R132: a frame is under way. -/
def Board.sending (b : Board) : Bool := b.scanner != .stopped && !b.frameDue

/-- R132: the board's outputs in the line period of 5 ms in progress: the bits of its words on the data output, and the
pulse of the latch output in the latch line. -/
def Board.drive (b : Board) : Board :=
  { b with
    data := if b.sending then (lineWords b.words (b.count / 5)).flatMap LampWord.bits else []
    latch := b.sending && decide (30 ≤ b.count) }

/-- R166, R180: a console data output against a byte of a frame, counted from 0, or with chip select withdrawn; `none`
is high-impedance, as it is with chip select withdrawn and while the reset input is asserted. -/
def State.dataOut (s : State) (c : Console) (reset : Bool) (byte : Option Nat) : Option Byte :=
  if reset then none else byte.map (s.port c).response.byteOut

/-- Every output follows the state an event has left: the horns (R127), the common alarm line (R119), the interrupt
lines (R170), and the board's data and latch outputs (R132). -/
def settle (s : State) : State :=
  { s with
    horns := table4 fun c => { s.horn c with out := hornDriven s c }
    ports := table4 fun c => { s.port c with irq := (s.port c).lineDriven }
    board := s.board.drive
    commonAlarm := commonAlarmDriven s }

/-! ## Frames at a console port (R166 to R168) -/

/-- The outcome of every command. -/
abbrev Result := Host.Outcome State Fault Refusal

/-- An event has its effect and the outputs follow. -/
def event (s : State) : Result := .next (settle s)

/-- R167, R168: a request's reply becomes the port's pending response and its result record. -/
def answer (c : Console) (tag : Byte) (x : State × Reply) : State :=
  x.1.setPort c { x.1.port c with response := responseOf x.2.status tag x.2.record, result := x.2.record }

/-- R167: a good frame with a listed command: the presence monitor acts on the arrival first, then the command is
handled whole, then its response becomes pending. -/
def request (c : Console) (r : Request) (body : State → State × Reply) (s : State) : Result :=
  event (answer c r.tag (body (frameArrives c s)))

/-- The check that refuses a command of IN_SERVICE in CONFIGURING (R167, R174). -/
def needService (s : State) : Check := fails s.configuring .wrongMode

/-- The check that refuses a command of CONFIGURING in IN_SERVICE (R174). -/
def needConfiguring (s : State) : Check := fails s.inService .wrongMode

/-- The checks of a request that a signed-on OPERATOR or SUPERVISOR makes: NOT_SIGNED_ON before ROLE (R10). -/
def needOperator (s : State) (c : Console) : List Check :=
  [fails (s.nobodyAt c) .notSignedOn, fails (s.traineeAt c) .role]

/-- The check of a request that only console 0 may make. -/
def needLead (c : Console) : Check := fails (c != 0) .noAuthority

/-- The checks of a request that needs supervisor rights at console 0 (R10). -/
def needSupervisor (s : State) (c : Console) : List Check :=
  [needLead c, fails (s.nobodyAt c) .notSignedOn, fails (!s.supervisorAt c) .role]

end Sys2Proof.Machine
end

