-- ==== Sys2Proof/Machine/AlarmList.lean ====
section
/-! DEFINITION. Acknowledgement requests, the alarm list with its cursors, and READ_POINT (2.5, 2.6). -/

namespace Sys2Proof.Machine

/-! ## Acknowledgement requests -/

/-- R16: the console tests of an acknowledgement request. -/
def ackChecks (s : State) (c : Console) : List Check := needService s :: needOperator s c

/-- R16 test 4: the override flag needs console 0 with a SUPERVISOR. -/
def overrideChecks (s : State) (c : Console) (override : Bool) : List Check :=
  [fails (override && c != 0) .noAuthority, fails (override && !s.supervisorAt c) .role]

/-- R36: the checks of ACK_POINT, after the console tests. -/
def ackPointChecks (s : State) (c : Console) (n : Nat) (override : Bool) : List Check :=
  let p := pointOf n
  let q := s.point p
  ackChecks s c ++ overrideChecks s c override ++
  [ fails (decide (511 < n)) .badOperand
  , fails (!q.configured) .badOperand
  , fails (!override && ackStanding s c q.area == .none) .noAuthority
  , fails (!q.unacknowledged) .state
  , fails (!override && ackResult s p c == .passed) .state ]

/-- R36: the outcome's code: COMPLETED 0, PARTIAL 1. -/
def AckResult.code : AckResult → Nat
  | .completed => 0
  | .recorded => 1
  | .passed => 1

/-- R36: ACK_POINT taken; the override completes in console 0's name whatever the area (R21). -/
def takeAckPoint (s : State) (c : Console) (p : PointNo) (override : Bool) : State × Reply :=
  let s1 := if override then completeAck s p c (s.operatorNumber c) true else settleAck s p c
  let result := if override then .completed else ackResult s p c
  taken s1 (byte2 p ++ byte1 result.code ++ byte1 (s1.point p).state.code)

/-- R36: ACK_POINT. Of the override byte only bit 0 is read. -/
def ackPoint (c : Console) (r : Request) (s : State) : State × Reply :=
  let n := num16 r.b3 r.b4
  let override := r.b5.getLsbD 0
  decided s (ackPointChecks s c n override) (takeAckPoint s c (pointOf n) override)

/-- R36: ACK_POINT, as a frame. -/
def execAckPoint (c : Console) (r : Request) (s : State) : Result := request c r (ackPoint c r) s

/-- R37: the two counts of ACK_AREA and ACK_ALL. -/
def takeAcks (t : AckTally) : State × Reply := taken t.state (byte2 t.completed ++ byte2 t.recorded)

/-- R37: ACK_AREA. -/
def ackArea (c : Console) (r : Request) (s : State) : State × Reply :=
  let n := r.b3.toNat
  let a := areaOf n
  decided s
    (ackChecks s c ++ [fails (decide (23 < n)) .badOperand, fails (ackStanding s c a == .none) .noAuthority])
    (takeAcks (ackPoints s c fun x => x == a))

/-- R37: ACK_AREA, as a frame. -/
def execAckArea (c : Console) (r : Request) (s : State) : Result := request c r (ackArea c r) s

/-- R38: ACK_ALL. -/
def ackAll (c : Console) (_r : Request) (s : State) : State × Reply :=
  decided s (ackChecks s c) (takeAcks (ackAllFrom s c))

/-- R38: ACK_ALL, as a frame. -/
def execAckAll (c : Console) (r : Request) (s : State) : Result := request c r (ackAll c r) s

/-! ## The alarm list (R41) -/

/-- R41: the alarm list holds each configured point in RAISED, RETURNED or STANDING. -/
def Point.listed (q : Point) : Bool := q.configured && (q.unacknowledged || q.state == .standing)

/-- R41: the key of a listed point. -/
def keyOf (p : PointNo) (q : Point) : ListKey := ⟨q.priority.number, q.serial.getD 0, p⟩

/-- R41: keys in order of priority, then raise serial, then point number. -/
def ListKey.before (k l : ListKey) : Bool :=
  decide (k.priority < l.priority) ||
    (k.priority == l.priority && (decide (k.serial < l.serial) || (k.serial == l.serial && decide (k.point < l.point))))

/-- R43: what a scope admits, judged at the request's arrival. -/
def admits (s : State) (c : Console) (sc : Scope) (q : Point) : Bool :=
  match sc with
  | .own => (s.horn c).scope.getLsbD q.area
  | .all => true
  | .area a => q.area == a

/-- R42, R43: the entries of the alarm list that a scope admits. -/
def listedIn (s : State) (c : Console) (sc : Scope) : List (PointNo × Point) :=
  (entries s.points).filter fun x => x.2.listed && admits s c sc x.2

/-- The entry of least key in a list of entries. -/
def firstByKey : List (PointNo × Point) → Option (PointNo × Point)
  | [] => none
  | x :: rest =>
    match firstByKey rest with
    | none => some x
    | some y => if (keyOf y.1 y.2).before (keyOf x.1 x.2) then some y else some x

/-- R44: a key is greater than the cursor's last key; before the first entry every key is. -/
def aboveCursor (cur : Cursor) (k : ListKey) : Bool :=
  match cur with
  | .atKey _ last => last.before k
  | _ => true

/-- The scope of an open cursor. -/
def Cursor.scope : Cursor → Scope
  | .closed => .all
  | .beforeFirst sc => sc
  | .atKey sc _ => sc

/-- R44: the first entry of the list that the cursor's scope admits and whose key is above its last key. -/
def nextEntry (s : State) (c : Console) (cur : Cursor) : Option (PointNo × Point) :=
  firstByKey ((listedIn s c cur.scope).filter fun x => aboveCursor cur (keyOf x.1 x.2))

/-- R42, R173: the scope that LIST_OPEN names. -/
def scopeOf (code area : Nat) : Option Scope :=
  match code with
  | 0 => some .own
  | 1 => some .all
  | 2 => if area < 24 then some (.area (areaOf area)) else none
  | _ => none

/-- R42: LIST_OPEN. -/
def listOpen (c : Console) (r : Request) (s : State) : State × Reply :=
  let sc := scopeOf r.b3.toNat r.b4.toNat
  decided s [needService s, fails sc.isNone .badOperand]
    (taken (s.setPort c { s.port c with cursor := .beforeFirst (sc.getD .all) })
      (byte2 (listedIn s c (sc.getD .all)).length))

/-- R42: LIST_OPEN, as a frame. -/
def execListOpen (c : Console) (r : Request) (s : State) : Result := request c r (listOpen c r) s

/-- R19: the ack view of a console: AWAITING_PARTNER 0, PARTNER_WAITING 1, NONE 2. -/
def ackView (c : Console) (q : Point) : Nat :=
  if q.ackSet.contains c then 0 else if q.ackSet.isEmpty then 2 else 1

/-- R44: an entry as LIST_NEXT returns it. -/
def entryBytes (c : Console) (p : PointNo) (q : Point) : List Byte :=
  byte2 p ++ byte1 q.area ++ byte1 q.priority.number ++ byte1 q.state.code ++ byte1 q.quality.code ++
    byte1 (ackView c q) ++ byte1 (firstMarkCode q.firstMark) ++ boolByte q.quiet

/-- R44: LIST_NEXT, past its checks. -/
def takeNext (s : State) (c : Console) : State × Reply :=
  let cur := (s.port c).cursor
  match nextEntry s c cur with
  | none => (s, ⟨.endOfList, []⟩)
  | some x =>
    taken (s.setPort c { s.port c with cursor := .atKey cur.scope (keyOf x.1 x.2) }) (entryBytes c x.1 x.2)

/-- R44: LIST_NEXT. -/
def listNext (c : Console) (_r : Request) (s : State) : State × Reply :=
  decided s [needService s, fails ((s.port c).cursor == .closed) .state] (takeNext s c)

/-- R44: LIST_NEXT, as a frame. -/
def execListNext (c : Console) (r : Request) (s : State) : Result := request c r (listNext c r) s

/-! ## READ_POINT (R45) -/

/-- R45: one page of a point entry. -/
def pointPage (c : Console) (q : Point) (page : Nat) : List Byte :=
  match page with
  | 0 => boolByte q.configured ++ byte1 q.area ++ byte1 q.priority.number ++ byte1 q.group ++ boolByte q.shelvable ++
      byte1 q.input.code ++ byte1 q.quality.code ++ byte1 q.state.code ++ byte1 (ackView c q) ++
      byte1 (firstMarkCode q.firstMark) ++ boolByte q.quiet
  | 1 => optBytes 4 (fun n => byte4 (BitVec.ofNat 32 n)) q.serial
  | 2 => optBytes 4 byte4 q.raiseTime
  | 3 => optBytes 4 (fun i => byte4 i.time) q.ack
  | _ => optBytes 4 (fun i => byte1 i.console ++ byte2 i.operator ++ boolByte i.override) q.ack

/-- R45: READ_POINT. -/
def readPoint (c : Console) (r : Request) (s : State) : State × Reply :=
  let n := num16 r.b3 r.b4
  let page := r.b5.toNat
  decided s [fails (decide (511 < n) || decide (4 < page)) .badOperand]
    (taken s (pointPage c (s.point (pointOf n)) page))

/-- R45: READ_POINT, as a frame. -/
def execReadPoint (c : Console) (r : Request) (s : State) : Result := request c r (readPoint c r) s

end Sys2Proof.Machine
end

