-- ==== Sys2Proof/Machine/Board.lean ====
section
/-! DEFINITION. The horns' requests, the lamp test, and the overview board (Chapter 7). -/

namespace Sys2Proof.Machine

/-! ## Silence and READ_HORN (7.3) -/

/-- R125: a silenced set with the points of a demand added, in ascending point number. -/
def addSilenced (demand : List PointNo) (set : List PointNo) : List PointNo :=
  (List.finRange 512).filter fun p => set.contains p || demand.contains p

/-- R129: a SILENCE from a console, by request or by button. -/
def silenceHorn (s : State) (c : Console) : State :=
  let h := s.horn c
  s.setHorn c { h with silenced := addSilenced ((hornDemand s c).map (·.1)) h.silenced, chirp := none }

/-- R129: SILENCE. -/
def silence (c : Console) (_r : Request) (s : State) : State × Reply :=
  decided s [needService s] (taken (silenceHorn s c) (byte2 (hornDemand s c).length))

/-- R129: SILENCE, as a frame. -/
def execSilence (c : Console) (r : Request) (s : State) : Result := request c r (silence c r) s

/-- R130: the demand priority as a byte. The manual gives no code for NONE: a free value (notes/assumptions/5.md). It
does not say whether NONE is a value of the field or its absence, which a presence byte would show (R173): the model
takes it as a value, with no presence byte (DESIGN CHOICE, notes/assumptions/15.md). -/
def demandByte (d : Option Priority) : Byte :=
  match d with
  | some p => BitVec.ofNat 8 p.number
  | none => Config.demandNoneByte

/-- R130: a console's horn state, the demand priority one byte (`demandByte`). -/
def hornBytes (s : State) (c : Console) : List Byte :=
  areaBytes (s.horn c).scope ++ [demandByte (demandPriority s c)] ++ boolByte (s.horn c).chirp.isSome ++
    byte2 (s.horn c).silenced.length ++ boolByte (hornDriven s c)

/-- R130: READ_HORN. -/
def readHorn (_c : Console) (r : Request) (s : State) : State × Reply :=
  let n := r.b3.toNat
  decided s [fails (decide (3 < n)) .badOperand] (taken s (hornBytes s (consoleOf n)))

/-- R130: READ_HORN, as a frame. -/
def execReadHorn (c : Console) (r : Request) (s : State) : Result := request c r (readHorn c r) s

/-! ## The lamp test (7.5) -/

/-- R136: a test press. -/
def LampTest.press : LampTest → LampTest
  | .idle => .pending
  | t => t

/-- R136: LAMP_TEST taken. -/
def LampTest.asked : LampTest → LampTest
  | .idle => .pending
  | .pending => .pending
  | .running n _ => .running n 16

/-- R136: LAMP_TEST. -/
def lampTest (_c : Console) (_r : Request) (s : State) : State × Reply :=
  decided s [needService s] (taken { s with lampTest := s.lampTest.asked } (byte1 s.lampTest.asked.code))

/-- R136: LAMP_TEST, as a frame. -/
def execLampTest (c : Console) (r : Request) (s : State) : Result := request c r (lampTest c r) s

/-- R123: the set of desks whose TEST button is debounced PRESSED is not empty. -/
def testHeld (s : State) : Bool := s.lines.toList.any fun d => d.test.debounced == .pressed

/-- R136: the lamp test at a frame start: the test frame number that this frame shows, if it shows the test image, and
the state after it. -/
def LampTest.frameStart (held : Bool) : LampTest → Option Nat × LampTest
  | .idle => (none, .idle)
  | .pending => (some 0, .running 1 15)
  | .running n owed => if owed = 0 && !held then (none, .idle) else (some n, .running ((n + 1) % 16) (owed - 1))

/-! ## Tile codes (R131, R134, R135) -/

/-- R131: a tile code is lit in a slot: a steady code always, a fast code in slots 0 and 1 modulo 4, a slow code in
slots 0 to 7. -/
def litIn (code slot : Nat) : Bool :=
  match (code - 1) % 3 with
  | 0 => true
  | 1 => decide (slot % 4 < 2)
  | _ => decide (slot < 8)

/-- R131: the lamp word of a colour, 0 red, 1 amber, 2 white, 3 blue. -/
def colourWord (k : Nat) : LampWord := { red := k == 0, amber := k == 1, white := k == 2, blue := k == 3 }

/-- R131: the lamp word of a tile code in a slot. -/
def lampWord (code slot : Nat) : LampWord :=
  if code = 0 then .blank else if litIn code slot then colourWord ((code - 1) / 3) else .blank

/-- R134: the configured points of an area. -/
def areaPoints (s : State) (a : AreaNo) : List Point := s.points.toList.filter fun q => q.configured && q.area == a

/-- R134: red for priority 1 and 2, amber for priority 3 and 4: the code of the colour's steady, fast (1) or slow (2)
form. -/
def priorityCode (urgent : Bool) (flash : Nat) : Nat := (if urgent then 1 else 4) + flash

/-- Whether a point is of priority 1 or 2. -/
def Point.urgent (q : Point) : Bool := q.priority == .p1 || q.priority == .p2

/-- R134: the tile code of an area, by the first row of its table that holds. -/
def areaTile (s : State) (a : AreaNo) : Nat :=
  let l := areaPoints s a
  let raised := l.filter (·.state == .raised)
  let returned := l.filter (·.state == .returned)
  let standing := l.filter (·.state == .standing)
  let e := s.area a
  if raised.any (·.urgent) then 2
  else if !raised.isEmpty then 5
  else if !returned.isEmpty then priorityCode (returned.any (·.urgent)) 2
  else if !standing.isEmpty then priorityCode (standing.any (·.urgent)) 0
  else if e.isEscalated then 8
  else if e.notGood != 0 then 7
  else if e.shelved != 0 then 10
  else 0

/-- R135: the tile code of a group. -/
def groupTile (s : State) (g : GroupNo) : Nat :=
  match s.groups[g] with
  | .armed => 0
  | .tripped p => if (s.point p).unacknowledged then 2 else 1

/-- R131, 7.4: tiles 0 to 23 show areas 0 to 23, tiles 24 to 31 groups 1 to 8. -/
def tileCode (s : State) (n : Fin 32) : Nat :=
  if n.val < 24 then areaTile s (areaOf n) else groupTile s (Fin.ofNat 8 (n.val - 24))

/-! ## Test images (R137, R138) -/

/-- R137: the code of a position of every line in a test frame under BARS. -/
def barsCode (p : Pattern) (frame position : Nat) : Nat :=
  let k := position / p.width
  if k < p.bars then 1 + 3 * ((k + frame / 4) % 4) else 0

/-- R138: the code of a position of every line under FIXED. -/
def fixedCode (p : Pattern) (position : Nat) : Nat := p.codes[Fin.ofNat 12 (position % p.length)]

/-- R137, R138: the code of a position in a test frame. -/
def testCode (p : Pattern) (frame position : Nat) : Nat :=
  match p.kind with
  | .bars => barsCode p frame position
  | .fixed => fixedCode p position

/-! ## Board frames (R132, R133) -/

/-- A table of 32 entries, given by tile number. -/
def table32 {α : Type} (f : Fin 32 → α) : Vector α 32 := ⟨⟨(List.finRange 32).map f⟩, by simp⟩

/-- R133: the 32 lamp words of a frame: the live image, or the test image of a test frame number. -/
def boardImage (s : State) (test : Option Nat) : Vector LampWord 32 :=
  table32 fun n =>
    lampWord (match test with
      | none => tileCode s n
      | some frame => testCode s.pattern frame (n.val % 8)) s.slots.slot

/-- R132: the chain of 32 drivers after words are shifted into it: the word shifted last rests nearest the part, and as
many words pass out at the far end. -/
def shiftInto (chain : Vector LampWord 32) (sent : List LampWord) : Vector LampWord 32 :=
  table32 fun n => (sent.reverse ++ chain.toList).getD n.val .blank

/-- R133, R136: a frame start: the lamp test moves on, and the image of this frame is taken. -/
def startFrame (s : State) : State :=
  let t := s.lampTest.frameStart (testHeld s)
  { s with
    lampTest := t.2
    board := { s.board with scanner := .scanning, count := 0, frameDue := false, words := boardImage s t.1 } }

/-- R132: the frame in progress is abandoned, and one frame of blank words begins. -/
def startBlankFrame (s : State) : State :=
  { s with
    board := { s.board with
      scanner := .blanking, count := 0, frameDue := false, words := Vector.replicate 32 .blank } }

/-- R132: the latch at a frame's end moves the chain's words to the lamps. -/
def latch (s : State) : State :=
  { s with board := { s.board with lamps := s.board.chain, frameDue := false } }

/-- R132: the board scanner at a millisecond tick: at the end of a line period its words have passed into the chain,
and a frame ends 35 ms after its start. -/
def Board.tick (b : Board) : Board :=
  if b.scanner = .stopped then b
  else
    let b1 := if b.count % 5 = 4 then { b with chain := shiftInto b.chain (lineWords b.words (b.count / 5)) } else b
    if b.count = 34 then { b1 with count := 0, frameDue := true } else { b1 with count := b.count + 1 }

end Sys2Proof.Machine
end

