-- ==== Sys2Proof/Machine/DeskLines.lean ====
section
/-! DEFINITION. The desk lines (6.3): the debounce, and what a debounced press or release does. -/

namespace Sys2Proof.Machine

/-! ## The debounce (R121) -/

/-- The line of a button of a desk. -/
def DeskLines.get (d : DeskLines) : Button → DeskLine
  | .ack => d.ack
  | .silence => d.silence
  | .test => d.test

/-- The lines of a desk with one changed. -/
def DeskLines.put (d : DeskLines) (b : Button) (l : DeskLine) : DeskLines :=
  match b with
  | .ack => { d with ack := l }
  | .silence => { d with silence := l }
  | .test => { d with test := l }

/-- A desk line. -/
def State.deskLine (s : State) (d : Console) (b : Button) : DeskLine := (s.lines[d]).get b

/-- The state with a desk line changed. -/
def State.setDeskLine (s : State) (d : Console) (b : Button) (l : DeskLine) : State :=
  { s with lines := s.lines.set d ((s.lines[d]).put b l) }

/-- R121: a change of a line's level: the candidate takes it, since the run clock of the change. -/
def lineChange (s : State) (d : Console) (b : Button) (l : Level) : State :=
  let x := s.deskLine d b
  if l = x.line then s
  else s.setDeskLine d b { x with line := l, candidate := l, since := s.time.runClock }

/-- R121: DESK_LINE_CHANGE. -/
def execDeskLineChange (d : Console) (b : Button) (l : Level) (s : State) : Result := event (lineChange s d b l)

/-- R121: the debounced level of a line is due to become a level: IN_SERVICE, the candidate is that level, differs
from the debounced level, and has stood for 20 ms. -/
def lineDue (s : State) (d : Console) (b : Button) (l : Level) : Bool :=
  let x := s.deskLine d b
  s.inService && x.candidate == l && x.debounced != l && decide (20 ≤ (s.time.runClock - x.since).toNat)

/-- R121: the debounced level takes the candidate level. -/
def debounce (s : State) (d : Console) (b : Button) (l : Level) : State :=
  s.setDeskLine d b { s.deskLine d b with debounced := l }

/-! ## The buttons (R122, R123) -/

/-- R122, 10.4: the UNSIGNED_BUTTON record of an ACK press: button ACK is 0. -/
def unsignedButton (s : State) (d : Console) : State :=
  offer s (journalRecord s .unsignedButton .accountable d d 0#6 0 (value12 0))

/-- R122, R40: a debounced press of a desk's ACK button. A TRAINEE's acknowledges nothing. -/
def ackPress (s : State) (d : Console) : State :=
  if s.nobodyAt d then unsignedButton s d
  else if s.traineeAt d then s
  else (ackAllFrom s d).state

/-- R122: the ACK press of a desk, where it is due. -/
def deskAckPress (d : Console) (s : State) : State :=
  if lineDue s d .ack .pressed then ackPress (debounce s d .ack .pressed) d else s

/-- R123: the SILENCE press of a desk, where it is due. -/
def deskSilencePress (d : Console) (s : State) : State :=
  if lineDue s d .silence .pressed then silenceHorn (debounce s d .silence .pressed) d else s

/-- R123, R136: the TEST press of a desk, where it is due. -/
def deskTestPress (d : Console) (s : State) : State :=
  if lineDue s d .test .pressed then
    let s1 := debounce s d .test .pressed
    { s1 with lampTest := s1.lampTest.press }
  else s

/-- R123, R136: the TEST release of a desk, where it is due: the set of held desks is read at frame starts. -/
def deskTestRelease (d : Console) (s : State) : State :=
  if lineDue s d .test .released then debounce s d .test .released else s

/-- R121 to R123: the release of a desk's ACK or SILENCE button, where it is due, which has no effect of its own. -/
def deskButtonRelease (d : Console) (b : Button) (s : State) : State :=
  if b != .test && lineDue s d b .released then debounce s d b .released else s

/-- R122: DESK_ACK_PRESS. -/
def execDeskAckPress (d : Console) (s : State) : Result := event (deskAckPress d s)

/-- R123: DESK_SILENCE_PRESS. -/
def execDeskSilencePress (d : Console) (s : State) : Result := event (deskSilencePress d s)

/-- R123: DESK_TEST_PRESS. -/
def execDeskTestPress (d : Console) (s : State) : Result := event (deskTestPress d s)

/-- R123: DESK_TEST_RELEASE. -/
def execDeskTestRelease (d : Console) (s : State) : Result := event (deskTestRelease d s)

/-- R121: DESK_BUTTON_RELEASE. -/
def execDeskButtonRelease (d : Console) (b : Button) (s : State) : Result := event (deskButtonRelease d b s)

end Sys2Proof.Machine
end

