-- ==== Sys2Proof/Machine/JournalLink.lean ====
section
/-! DEFINITION. The journal's requests, its sender and its link (Chapter 9), and the byte layout of a journal record
(10.4). -/

namespace Sys2Proof.Machine

/-! ## The record's bytes (R151, 10.4) -/

/-- 10.4: the kind codes. FILLER has the code 0x1B. -/
def JournalKind.code : JournalKind → Byte
  | .raise => 0x01#8
  | .pointReturn => 0x02#8
  | .ack => 0x03#8
  | .ackPartial => 0x04#8
  | .firstOut => 0x05#8
  | .shelve => 0x06#8
  | .unshelve => 0x07#8
  | .expire => 0x08#8
  | .floodOn => 0x09#8
  | .floodOff => 0x0A#8
  | .hoOffer => 0x0B#8
  | .hoAccept => 0x0C#8
  | .hoEnd => 0x0D#8
  | .signOn => 0x0E#8
  | .signOff => 0x0F#8
  | .takeover => 0x10#8
  | .absent => 0x11#8
  | .present => 0x12#8
  | .escalate => 0x13#8
  | .unsignedButton => 0x14#8
  | .gap => 0x15#8
  | .linkLost => 0x16#8
  | .linkOk => 0x17#8
  | .loss => 0x18#8
  | .timeSet => 0x19#8
  | .restart => 0x1A#8
  | .filler => 0x1B#8

/-- Bytes summed modulo 256. -/
def byteSum (l : List Byte) : Byte := l.foldl (· + ·) 0#8

/-- 10.4: bytes 1 to 15 of a journal record. -/
def JournalRecord.body (r : JournalRecord) : List Byte :=
  [0xA7#8, r.kind.code] ++ byte4 r.time ++ [r.subject.extractLsb' 8 8, r.subject.extractLsb' 0 8,
    r.qualifier ++ BitVec.ofNat 2 r.console.val, r.operator.extractLsb' 8 8, r.operator.extractLsb' 0 8] ++
    byte4 r.value

/-- R151: the 16 bytes of a journal record; the check makes them sum to 0 modulo 256. -/
def JournalRecord.bytes (r : JournalRecord) : List Byte := r.body ++ [-byteSum r.body]

/-- The record of the unit in transmission: the head of the FIFO, or a FILLER. -/
def Journal.unitRecord (j : Journal) : Option JournalRecord :=
  match j.unit with
  | none => none
  | some .record => j.fifo.head?
  | some (.filler r) => some r

/-- R158: the byte of the unit in transmission that the line is sending or will send next. -/
def Journal.nextByte (j : Journal) : Option Byte := j.unitRecord.bind fun r => r.bytes[j.bytesSent]?

/-- R158, R163: the byte under way on the transmit line: of the unit in transmission, or of one that was cut short. -/
def Journal.lineOut (j : Journal) : Option Byte :=
  match j.lineByte with
  | .none => none
  | .unit => j.nextByte
  | .tail b => some b

/-! ## The sender (R158, R159) -/

/-- R158: the waiting byte of the unit in transmission begins, if no byte is under way and ready is asserted. -/
def Journal.resume (j : Journal) : Journal :=
  if j.unit.isSome && j.lineByte = .none && j.ready then { j with lineByte := .unit } else j

/-- R158: a byte waits for the ready input, which was withdrawn when it was to begin. -/
def Journal.waiting (j : Journal) : Bool := j.unit.isSome && j.lineByte == .none

/-- R158: the ready input takes a level and nothing else follows at once: a byte under way is finished all the same, a
waiting byte begins at the millisecond tick that sees ready asserted, and a unit that begins next finds the level as it
is at that moment. -/
def readyChange (ready : Bool) (s : State) : State := { s with journal := { s.journal with ready := ready } }

/-- R158: the stop bit of a byte other than the 16th of the unit has been sent; the byte that JOURNAL_RESET let finish
ends here too (R163). With no such byte under way the event brings in the level of the ready input alone, which may so
change between two ticks (DESIGN CHOICE, notes/assumptions/12.md). -/
def journalByteSent (ready : Bool) (s : State) : State :=
  let j := { s.journal with ready := ready }
  match j.lineByte with
  | .none => readyChange ready s
  | .tail _ => { s with journal := { j with lineByte := .none }.resume }
  | .unit =>
    if j.bytesSent < 15 then
      { s with journal := { j with bytesSent := j.bytesSent + 1, lineByte := .none }.resume }
    else readyChange ready s

/-- R158: a unit leaves transmission; a record leaves the FIFO with it. -/
def Journal.leave (j : Journal) : Journal :=
  { j with
    fifo := if j.unit = some .record then j.fifo.tail else j.fifo
    unit := none
    bytesSent := 0
    lineByte := .none }

/-- R158: the stop bit of the unit's 16th byte has been sent. In STREAMING the next head record begins; in STOPPING the
stream becomes STOPPED, which sets the JOURNAL event (R157, R161). With no such byte under way the event brings in the
level of the ready input alone (DESIGN CHOICE, notes/assumptions/12.md). -/
def journalRecordSent (ready : Bool) (s : State) : State :=
  let j := { s.journal with ready := ready }
  if j.lineByte = .unit && j.bytesSent = 15 then
    match j.stream with
    | .stopping => journalEvent { s with journal := { j.leave with stream := .stopped } }
    | _ => { s with journal := j.leave.kick }
  else readyChange ready s

/-- R158: JOURNAL_BYTE_SENT. -/
def execJournalByteSent (ready : Bool) (s : State) : Result := event (journalByteSent ready s)

/-- R158: JOURNAL_RECORD_SENT. -/
def execJournalRecordSent (ready : Bool) (s : State) : Result := event (journalRecordSent ready s)

/-- R158: the byte that waited at the last millisecond tick, which saw ready asserted, has begun at that tick, whatever
level the input has taken since. -/
def Journal.resumeSeen (j : Journal) : Journal :=
  { j with lineByte := if j.waiting then .unit else j.lineByte, resumeDue := false }

/-- R158: the waiting byte begins, where the last tick has seen ready asserted. -/
def readyResume (s : State) : State := if s.journal.resumeDue then { s with journal := s.journal.resumeSeen } else s

/-- R158: the sender at a millisecond tick, which sees the ready input at a level. A byte that waits is due to begin at
this tick where the level is asserted; the JOURNAL_READY_RESUME event begins it (DESIGN CHOICE,
notes/assumptions/12.md). -/
def Journal.see (j : Journal) (ready : Bool) : Journal :=
  { j with ready := ready, readySeen := ready, resumeDue := ready && j.waiting }

/-- R158: JOURNAL_READY_RESUME. -/
def execJournalReadyResume (s : State) : Result := event (readyResume s)

/-- R159: the stream is STREAMING, the FIFO is empty and no unit is in transmission. -/
def Journal.idleStreaming (j : Journal) : Bool := j.stream == .streaming && j.fifo.isEmpty && j.unit.isNone

/-- R159: the FIFO is not empty or a unit is in transmission. -/
def Journal.busy (j : Journal) : Bool := !j.fifo.isEmpty || j.unit.isSome

/-- R159: a FILLER begins at this seconds tick, the ready input as the tick saw it. -/
def fillerBegins (s : State) : Bool := s.journal.idleStreaming && s.journal.quiet && s.journal.readySeen

/-- R159: the sender's step at a seconds tick: the quiet flag, and the FILLER record that it and the ready input call
for. -/
def fillerStep (s : State) : State :=
  let s1 := { s with time := { s.time with fillerDue := false } }
  if s.journal.busy then { s1 with journal := { s.journal with quiet := false } }
  else if fillerBegins s then
    { s1 with journal := s.journal.beginAt s.journal.readySeen (.filler (lossRecord s .filler .routine 0 0)) }
  else if s.journal.stream = .streaming then { s1 with journal := { s.journal with quiet := true } }
  else s1

/-- R159: FILLER, at a seconds tick whose step the sender has still to make. -/
def execFiller (s : State) : Result := event (if s.time.fillerDue then fillerStep s else s)

/-! ## The journal's requests (9.5) -/

/-- R160: the checks of JOURNAL_START. -/
def startChecks (s : State) (c : Console) : List Check := [needService s, needLead c]

/-- R160: the checks of JOURNAL_STOP, JOURNAL_CLEAR and JOURNAL_RESET. -/
def stopChecks (s : State) (c : Console) : List Check := needService s :: needSupervisor s c

/-- R161, R159: JOURNAL_START on the stream: entry to STREAMING clears the quiet flag, and the head record begins. -/
def Journal.start (j : Journal) : Journal :=
  match j.stream with
  | .streaming => j
  | _ => { j with stream := .streaming, quiet := false }.kick

/-- R161: JOURNAL_STOP on the stream. -/
def Journal.stop (j : Journal) : Journal :=
  match j.stream with
  | .streaming => if j.unit.isNone then { j with stream := .stopped } else { j with stream := .stopping }
  | _ => j

/-- R157, R161: a change of stream state sets the JOURNAL event. -/
def setStream (s : State) (j : Journal) : State :=
  let s1 := { s with journal := j }
  if j.stream = s.journal.stream then s1 else journalEvent s1

/-- R161: JOURNAL_START. -/
def journalStart (c : Console) (_r : Request) (s : State) : State × Reply :=
  decided s (startChecks s c) (taken (setStream s s.journal.start) (byte1 s.journal.start.stream.code))

/-- R161: JOURNAL_START, as a frame. -/
def execJournalStart (c : Console) (r : Request) (s : State) : Result := request c r (journalStart c r) s

/-- R161: JOURNAL_STOP. -/
def journalStop (c : Console) (_r : Request) (s : State) : State × Reply :=
  decided s (stopChecks s c) (taken (setStream s s.journal.stop) (byte1 s.journal.stop.stream.code))

/-- R161: JOURNAL_STOP, as a frame. -/
def execJournalStop (c : Console) (r : Request) (s : State) : Result := request c r (journalStop c r) s

/-- R162: the records that JOURNAL_CLEAR discards: all but the one in transmission. -/
def Journal.discarded (j : Journal) : List JournalRecord := if j.unit = some .record then j.fifo.tail else j.fifo

/-- The number of records of a class in a list. -/
def countClass (cls : JournalClass) (l : List JournalRecord) : Nat := (l.filter (·.cls == cls)).length

/-- R162: the journal after JOURNAL_CLEAR: each discarded record has incremented the drop counter of its class. -/
def Journal.clear (j : Journal) : Journal :=
  { j with
    fifo := if j.unit = some .record then j.fifo.take 1 else []
    dropRoutine := saturate16 (j.dropRoutine + countClass .routine j.discarded)
    dropAccountable := saturate16 (j.dropAccountable + countClass .accountable j.discarded) }

/-- R162: JOURNAL_CLEAR taken. R162 gives the two counts no range: both take two bytes, though a FIFO of at most 224
routine records would let the routine count fit in one (R155; DESIGN CHOICE, notes/assumptions/15.md). -/
def takeClear (s : State) : State × Reply :=
  let d := s.journal.discarded
  let s1 := { s with journal := s.journal.clear }
  let s2 := if !d.isEmpty && !s.journal.lossPending then settle510 (lossChange .active s1) else s1
  taken s2 (byte2 (countClass .routine d) ++ byte2 (countClass .accountable d))

/-- R162: JOURNAL_CLEAR. -/
def journalClear (c : Console) (_r : Request) (s : State) : State × Reply :=
  decided s (stopChecks s c) (takeClear s)

/-- R162: JOURNAL_CLEAR, as a frame. -/
def execJournalClear (c : Console) (r : Request) (s : State) : Result := request c r (journalClear c r) s

/-- R163: the journal after JOURNAL_RESET: a byte under way is finished, a byte that waited is not begun, and the rate and
the ready input are kept. -/
def Journal.cut (j : Journal) : Journal :=
  { j with
    fifo := []
    dropRoutine := 0
    dropAccountable := 0
    stream := .stopped
    unit := none
    bytesSent := 0
    lineByte := match j.lineOut with
      | some b => .tail b
      | none => .none
    quiet := false
    resumeDue := false }

/-- R163: JOURNAL_RESET taken. -/
def takeReset (s : State) : State × Reply :=
  let j := s.journal
  let s1 := { s with journal := j.cut }
  let s2 := if j.lossPending then settle510 (lossChange .normal s1)
    else if j.stream = .stopped then s1 else journalEvent s1
  taken s2 (byte2 j.fifo.length ++ byte1 (if j.unit.isSome then j.bytesSent else 0))

/-- R163: JOURNAL_RESET. -/
def journalReset (c : Console) (_r : Request) (s : State) : State × Reply :=
  decided s (stopChecks s c) (takeReset s)

/-- R163: JOURNAL_RESET, as a frame. -/
def execJournalReset (c : Console) (r : Request) (s : State) : Result := request c r (journalReset c r) s

/-- R164: one page of the journal's state. For page 0 it lists the unit's bytes sent and gives them no value, and no
presence byte (R173), where no unit is in transmission: the model returns one byte there always, 0 where there is none
(DESIGN CHOICE, notes/assumptions/15.md). -/
def journalPage (s : State) (page : Nat) : List Byte :=
  let j := s.journal
  match page with
  | 0 => byte1 j.stream.code ++ byte2 j.fifo.length ++ byte2 (countClass .accountable j.fifo) ++
      byte1 (unitCode j.unit) ++ byte1 j.bytesSent ++ byte2 j.dropRoutine ++ byte2 j.dropAccountable ++
      boolByte j.ready ++ byte1 j.rate
  | _ => byte4 s.time.runClock ++ byte4 s.time.offset ++ byte4 s.journalClock

/-- R164: READ_JOURNAL. -/
def readJournal (_c : Console) (r : Request) (s : State) : State × Reply :=
  let page := r.b3.toNat
  decided s [fails (decide (1 < page)) .badOperand] (taken s (journalPage s page))

/-- R164: READ_JOURNAL, as a frame. -/
def execReadJournal (c : Console) (r : Request) (s : State) : Result := request c r (readJournal c r) s

/-- R154: SET_TIME taken: the offset set, and the TIME_SET record stamped with the new journal clock. -/
def takeSetTime (s : State) (v : Word32) : State × Reply :=
  let offset := v - s.time.runClock
  let s1 := { s with time := { s.time with offset := offset } }
  let s2 := offer s1 (journalRecord s1 .timeSet .accountable 0 0 0#6 (s.operatorNumber 0) s.journalClock)
  taken s2 (byte4 offset)

/-- R154: SET_TIME. -/
def setTime (c : Console) (r : Request) (s : State) : State × Reply :=
  decided s (needService s :: needSupervisor s c) (takeSetTime s (word32 r.b3 r.b4 r.b5 r.b6))

/-- R154: SET_TIME, as a frame. -/
def execSetTime (c : Console) (r : Request) (s : State) : Result := request c r (setTime c r) s

end Sys2Proof.Machine
end

