-- ==== Sys2Proof/Machine/FieldLink.lean ====
section
/-! DEFINITION. The field receiver (Chapter 8): framing, valid records, loss and recovery of the link, and
READ_LINK_COUNTS. -/

namespace Sys2Proof.Machine

/-! ## Framing (8.2) -/

/-- R140: the sync byte, the first byte of every field record. -/
def syncByte : Byte := 0x5C#8

/-- R142, R143: leading bytes dropped until the first remaining byte is 0x5C, or until none remain. -/
def fromSync : List Byte → List Byte
  | [] => []
  | b :: rest => if b = syncByte then b :: rest else fromSync rest

/-- The state with the receiver's framing changed. -/
def State.setFraming (s : State) (f : Framing) : State := { s with receiver := { s.receiver with framing := f } }

/-- The state with the receiver's counters changed. -/
def State.setCounts (s : State) (k : LinkCounts) : State := { s with receiver := { s.receiver with counts := k } }

/-- R149: the framing error counter raised by one. -/
def countFraming (s : State) : State :=
  s.setCounts { s.receiver.counts with framing := saturate16 (s.receiver.counts.framing + 1) }

/-- R149: the check error counter raised by one. -/
def countCheck (s : State) : State :=
  s.setCounts { s.receiver.counts with check := saturate16 (s.receiver.counts.check + 1) }

/-- R149: the gap counter raised by one. -/
def countGap (s : State) : State :=
  s.setCounts { s.receiver.counts with gap := saturate16 (s.receiver.counts.gap + 1) }

/-- R149: the unknown counter raised by one. -/
def countUnknown (s : State) : State :=
  s.setCounts { s.receiver.counts with unknown := saturate16 (s.receiver.counts.unknown + 1) }

/-! ## Valid records (8.3) -/

/-- The link-loss time in milliseconds (R140). -/
def Timing.linkLossMs (t : Timing) : Nat := t.linkLossTime * 1000

/-- R144 step 1 with R148: the link timer at the arrival of a valid record, and the recovery of a link that was
LOST. -/
def linkHeard (s : State) : State :=
  let now := s.time.runClock
  let s1 := { s with
    receiver := { s.receiver with lastValid := now, link := .ok (some (after now s.timing.linkLossMs)) } }
  match s.receiver.link with
  | .ok _ => s1
  | .lost since =>
    let s2 := offer s1 (journalRecord s1 .linkOk .routine 0 0 0#6 0 (now - since))
    systemPoint (setFlagAt .link allFour s2) 511 .normal

/-- 10.4: the value of a GAP record: byte 12 the expected sequence, byte 13 the received. Bytes 14 and 15, which 10.4
gives no content, are 0 (DESIGN CHOICE, notes/assumptions/31.md). -/
def gapValue (expected received : Byte) : Word32 := expected ++ received ++ 0#16

/-- R145: the sequence test. -/
def sequenceTest (s : State) (seq : Byte) : State :=
  let next := { s with receiver := { s.receiver with expected := some (seq + 1#8) } }
  match s.receiver.expected with
  | none => next
  | some e =>
    if e = seq then next
    else
      let s1 := countGap next
      offer s1 (journalRecord s1 .gap .routine s1.receiver.counts.gap 0 0#6 0 (gapValue e seq))

/-- 10.4: the input that a state byte reports: bit 0, 1 ACTIVE. -/
def inputOf (state : Byte) : Input := if state.getLsbD 0 then .active else .normal

/-- 10.4: the source quality that a state byte reports: bit 1, 1 SUSPECT. -/
def qualityOf (state : Byte) : Quality := if state.getLsbD 1 then .suspect else .good

/-- R146: a CHANGE or REFRESH record against its point number. -/
def applyReport (s : State) (point : Nat) (state : Byte) : State :=
  if 507 < point then countUnknown s
  else
    let p := pointOf point
    let s1 := if (s.point p).configured then s else countUnknown s
    pointInput offer s1 p (inputOf state) (qualityOf state)

/-- R144 step 3: IDLE 0x00 goes no further, CHANGE 0x01 and REFRESH 0x02 are taken on, any other kind is unknown. -/
def applyKind (s : State) (kind : Byte) (point : Nat) (state : Byte) : State :=
  match kind.toNat with
  | 0 => s
  | 1 => applyReport s point state
  | 2 => applyReport s point state
  | _ => countUnknown s

/-- R144, R150: a valid record handled whole; in CONFIGURING it goes no further. -/
def handleRecord (s : State) (kind pointHi pointLo state seq : Byte) : State :=
  if s.inService then applyKind (sequenceTest (linkHeard s) seq) kind (num16 pointHi pointLo) state else s

/-- The seven bytes of a valid run, handled as its record. -/
def handleRun (s : State) (run : List Byte) : State :=
  handleRecord s (run.getD 1 0#8) (run.getD 2 0#8) (run.getD 3 0#8) (run.getD 4 0#8) (run.getD 5 0#8)

/-- R142: a byte in LOCKED. -/
def lockedByte (s : State) (held : List Byte) (b : Byte) : State :=
  if held = [] then
    if b = syncByte then s.setFraming (.locked [b]) else (countFraming s).setFraming (.searching [])
  else if held.length < 6 then s.setFraming (.locked (held ++ [b]))
  else if byteSum (held ++ [b]) = 0#8 then handleRun (s.setFraming (.locked [])) (held ++ [b])
  else (countCheck s).setFraming (.searching (fromSync (held.drop 1 ++ [b])))

/-- R143: a byte in SEARCHING. -/
def searchingByte (s : State) (window : List Byte) (b : Byte) : State :=
  if window = [] then if b = syncByte then s.setFraming (.searching [b]) else s
  else if window.length < 6 then s.setFraming (.searching (window ++ [b]))
  else if byteSum (window ++ [b]) = 0#8 then handleRun (s.setFraming (.locked [])) (window ++ [b])
  else s.setFraming (.searching (fromSync (window.drop 1 ++ [b])))

/-- R140: a byte handed to the framing rules at the event of its stop bit. -/
def receiveByte (s : State) (b : Byte) : State :=
  match s.receiver.framing with
  | .locked held => lockedByte s held b
  | .searching window => searchingByte s window b

/-- R142, R143: a line error. -/
def lineError (s : State) : State :=
  match s.receiver.framing with
  | .locked _ => (countFraming s).setFraming (.searching [])
  | .searching _ => s.setFraming (.searching [])

/-- R142, R143: FIELD_BYTE. -/
def execFieldByte (b : Byte) (s : State) : Result := event (receiveByte s b)

/-- R140: FIELD_LINE_ERROR. -/
def execFieldLineError (s : State) : Result := event (lineError s)

/-- R140, 10.4: the seven bytes of a valid record. -/
def recordBytes (kind pointHi pointLo state seq : Byte) : List Byte :=
  [syncByte, kind, pointHi, pointLo, state, seq, -byteSum [syncByte, kind, pointHi, pointLo, state, seq]]

/-- R144: FIELD_RECORD: the seven bytes of a valid record arrive one after another, and the framing rules take them. -/
def execFieldRecord (kind pointHi pointLo state seq : Byte) (s : State) : Result :=
  event ((recordBytes kind pointHi pointLo state seq).foldl receiveByte s)

/-! ## Loss of the link (8.4) -/

/-- R147: the link deadline has been reached. -/
def linkDue (s : State) : Bool :=
  match s.receiver.link with
  | .ok (some d) => s.inService && reached s.time.runClock d
  | _ => false

/-- R147 step 3: a configured point of 0 to 507. -/
def staleTarget (x : PointNo × Point) : Bool := decide (x.1.val < 508) && x.2.configured

/-- R147 step 3: the number of points that become STALE at the loss of the link. -/
def madeStale (s : State) : Nat :=
  ((entries s.points).filter fun x => staleTarget x && x.2.quality != .stale).length

/-- R147 step 3: the points of an area that were GOOD and become STALE. -/
def lostGood (s : State) (a : AreaNo) : Nat :=
  ((entries s.points).filter fun x => staleTarget x && x.2.quality == .good && x.2.area == a).length

/-- R147 step 3: every configured point of 0 to 507 takes quality STALE, and each area's not-GOOD count rises by the
number of its points that were GOOD. -/
def staleAll (s : State) : State :=
  { s with
    points := ⟨⟨(entries s.points).map fun x => if staleTarget x then { x.2 with quality := .stale } else x.2⟩,
      by simp [entries]⟩
    areas := ⟨⟨(entries s.areas).map fun x => { x.2 with notGood := x.2.notGood + lostGood s x.1 }⟩,
      by simp [entries]⟩ }

/-- R147: the link is lost. -/
def loseLink (s : State) : State :=
  let s1 := { staleAll s with
    receiver := { s.receiver with framing := .searching [], expected := none, link := .lost s.time.runClock } }
  let s2 := offer s1 (journalRecord s1 .linkLost .accountable (madeStale s) 0 0#6 0 s.receiver.lastValid)
  systemPoint (setFlagAt .link allFour s2) 511 .active

/-- R147: the loss of the link, where it is due. -/
def linkLost (s : State) : State := if linkDue s then loseLink s else s

/-- R147: LINK_LOST. -/
def execLinkLost (s : State) : Result := event (linkLost s)

/-! ## READ_LINK_COUNTS (8.5) -/

/-- R149: the receiver's values as READ_LINK_COUNTS returns them. -/
def linkBytes (r : Receiver) : List Byte :=
  byte2 r.counts.framing ++ byte2 r.counts.check ++ byte2 r.counts.gap ++ byte2 r.counts.unknown ++
    byte1 r.link.code ++ byte1 r.framing.code ++ optBytes 1 (fun b => [b]) r.expected ++ byte4 r.lastValid

/-- R149: READ_LINK_COUNTS: the values are taken first, then the clear flag clears the counters. -/
def readLinkCounts (_c : Console) (r : Request) (s : State) : State × Reply :=
  let flag := r.b3.toNat
  decided s [fails (decide (1 < flag)) .badOperand]
    (taken (if flag = 1 then s.setCounts ⟨0, 0, 0, 0⟩ else s) (linkBytes s.receiver))

/-- R149: READ_LINK_COUNTS, as a frame. -/
def execReadLinkCounts (c : Console) (r : Request) (s : State) : Result := request c r (readLinkCounts c r) s

end Sys2Proof.Machine
end

