-- ==== Sys2Proof/Machine/Handover.lean ====
section
/-! DEFINITION. The handover engine (Chapter 5): offer, acceptance, the checklist, release, gate and take, the
supervisor's force, every end of a record, and HO_READ. -/

namespace Sys2Proof.Machine

/-! ## Ends of a record (R102 to R104) -/

/-- R102: the outcomes of a commit. -/
def HoOutcome.isCommit : HoOutcome → Bool
  | .committed => true
  | .superseded => true
  | _ => false

/-- What an end of a record leaves: the state, the number of areas whose owner changed, and the number of points whose
acknowledgement completed in the resolution. -/
structure RecordEnd where
  state : State
  changed : Nat
  completed : Nat

/-- R2, R3: each area of a set loses its handover record field, and at a commit takes its new owner. -/
def releaseAreas (set : AreaSet) (owner : Option Console) (s : State) : State :=
  (members set).foldl
    (fun s a => s.setArea a { s.area a with record := none, owner := owner.getD (s.area a).owner }) s

/-- R103: one point of the resolution: its acknowledgement completes in the survivor's name if its ack set holds the
survivor. -/
def resolvePoint (set : AreaSet) (c : Console) (op : Nat) (t : AckTally) (p : PointNo) : AckTally :=
  let q := t.state.point p
  if q.configured && inSet q.area set && q.unacknowledged && q.ackSet.contains c then
    { t with state := completeAck t.state p c op false, completed := t.completed + 1 }
  else t

/-- R103: ack-set resolution over the areas of a record, with its survivor, after which every ack set of the record's
points is empty. -/
def resolveAckSets (set : AreaSet) (c : Console) (op : Nat) (s : State) : AckTally :=
  let t := (List.finRange 512).foldl (resolvePoint set c op) { state := s, completed := 0, recorded := 0 }
  { t with
    state := { t.state with
      points := mapTable (fun q => if q.configured && inSet q.area set then { q with ackSet := [] } else q)
        t.state.points } }

/-- R103: the survivor of an end: the incoming party at a commit, the outgoing party at every other end. -/
def survivor (h : HoRecord) (o : HoOutcome) : Console × Nat :=
  if o.isCommit then (h.inConsole.getD 0, h.inOperator.getD 0) else (h.outConsole.getD 0, h.outOperator.getD 0)

/-- R109, 10.4: the value of an HO_END record. -/
def endValue (o : HoOutcome) (cause : HoCause) (set : AreaSet) : Word32 := valueWithSet (o.code * 16 + cause.code) set

/-- R85: a record made FREE with its last outcome; its other fields keep their values, and its timer stops. -/
def HoRecord.ended (h : HoRecord) (o : HoOutcome) (cause : HoCause) : HoRecord :=
  { h with phase := .free, held := false, lastOutcome := some (o, cause) }

/-- R102, R104: the end of a live record, in the order of its five steps; `c` and `op` are the console and operator
whose event ended it (R109). -/
def endRecord (s : State) (r : RecordNo) (o : HoOutcome) (cause : HoCause) (c : Console) (op : Nat) : RecordEnd :=
  let h := s.record r
  let owner := if o.isCommit then h.inConsole else none
  let changed := countAreas (fun a => owner.any (· != (s.area a).owner)) (members h.areas)
  let t := resolveAckSets h.areas (survivor h o).1 (survivor h o).2 (releaseAreas h.areas owner s)
  let s3 := reevaluateAll (recomputeScopes t.state) (members h.areas)
  let s4 := offer s3 (journalRecord s3 .hoEnd .accountable r c 0#6 op (endValue o cause h.areas))
  let s5 := s4.setRecord r ((s4.record r).ended o cause)
  { state := setFlagParty .handover h.inConsole (setFlagParty .handover h.outConsole s5)
    changed := changed
    completed := t.completed }

/-- R83: the live record in which a console is incoming. -/
def incomingRecord (s : State) (c : Console) : Option RecordNo :=
  allFour.find? fun r => (s.record r).live && (s.record r).inConsole == some c

/-- R83: the live record in which a console is outgoing. -/
def outgoingRecord (s : State) (c : Console) : Option RecordNo :=
  allFour.find? fun r => (s.record r).live && (s.record r).outConsole == some c

/-- R88: the lowest-numbered FREE record. -/
def freeRecord (s : State) : Option RecordNo := allFour.find? fun r => (s.record r).phase == .free

/-! ## Checks shared by the handover requests (R86) -/

/-- R86: the console tests of a request that names a record. -/
def hoChecks (s : State) (c : Console) (n : Nat) : List Check :=
  [needService s, fails (decide (3 < n)) .badOperand] ++ needOperator s c

/-- R86: the party test of a request for the outgoing party. -/
def needOutgoing (s : State) (c : Console) (r : RecordNo) : Check :=
  fails ((s.record r).outConsole != some c) .noAuthority

/-- R86: the party test of a request for the incoming party. -/
def needIncoming (s : State) (c : Console) (r : RecordNo) : Check :=
  fails ((s.record r).inConsole != some c) .noAuthority

/-- R86: the phase test. -/
def needPhase (s : State) (r : RecordNo) (ph : Phase) : Check := fails ((s.record r).phase != ph) .state

/-! ## Offer and acceptance (5.2) -/

/-- R87: the checks of HO_OFFER, after the console tests of R86. R107 has the later of two offers for the last FREE
record refused with FULL, but with four live records every console is an incoming party already, and R87's second check
fails with STATE before its fifth: the model follows the order of R87 (DESIGN CHOICE, notes/assumptions/32.md). -/
def offerChecks (s : State) (c : Console) (n : Nat) (set : AreaSet) : List Check :=
  [needService s] ++ needOperator s c ++
  [ fails (decide (3 < n) || consoleOf n == c || set == 0#24) .badOperand
  , fails (incomingRecord s (consoleOf n)).isSome .state
  , fails ((members set).any fun a => (s.area a).owner != c) .noAuthority
  , fails ((members set).any fun a => (s.area a).record.isSome) .inHandover
  , fails (freeRecord s).isNone .full
  , fails (outgoingRecord s c).isSome .state ]

/-- R88: the record an offer writes, every field afresh. -/
def offeredRecord (s : State) (c : Console) (incoming : Console) (set : AreaSet) : HoRecord :=
  { HoRecord.reset with
    phase := .offered
    outConsole := some c
    outOperator := some (s.operatorNumber c)
    inConsole := some incoming
    areas := set
    timer := s.timing.offerTimeout }

/-- R3: each area of a set names a record. -/
def nameRecord (set : AreaSet) (r : RecordNo) (s : State) : State :=
  (members set).foldl (fun s a => s.setArea a { s.area a with record := some r }) s

/-- R88: HO_OFFER taken, with the record it uses. -/
def takeOffer (s : State) (c : Console) (incoming : Console) (set : AreaSet) (r : RecordNo) : State × Reply :=
  let h := offeredRecord s c incoming set
  let s1 := nameRecord set r (s.setRecord r h)
  let s2 := offer s1
    (journalRecord s1 .hoOffer .accountable r c 0#6 (s.operatorNumber c) (valueWithSet incoming set))
  taken (setFlag .handover (setFlag .handover s2 c) incoming) (byte1 r ++ byte2 h.timer)

/-- R87, R88: HO_OFFER. -/
def hoOffer (c : Console) (r : Request) (s : State) : State × Reply :=
  let n := r.b3.toNat
  let set := areaSet r.b4 r.b5 r.b6
  decided s (offerChecks s c n set) (takeOffer s c (consoleOf n) set ((freeRecord s).getD 0))

/-- R87, R88: HO_OFFER, as a frame. -/
def execHoOffer (c : Console) (r : Request) (s : State) : Result := request c r (hoOffer c r) s

/-- R90: the checks of HO_ACCEPT. -/
def acceptChecks (s : State) (c : Console) (n : Nat) : List Check :=
  let r := recordOf n
  hoChecks s c n ++
  [ needIncoming s c r
  , needPhase s r .offered
  , fails ((members (s.record r).areas).any fun a => !s.qualifiedAt c a) .notQualified ]

/-- R91: the record at acceptance. -/
def acceptedRecord (s : State) (c : Console) (h : HoRecord) : HoRecord :=
  { h with
    phase := .reviewing
    inOperator := some (s.operatorNumber c)
    timer := s.timing.reviewTimeout
    held := anyFlood s h.areas
    presented := 1#16
    confirmed := 0#16 }

/-- R109, 10.4: the HO_ACCEPT record: the review timer in the qualifier and byte 12, the area set in bytes 13 to 15. -/
def acceptRecord (s : State) (r : RecordNo) (c : Console) (h : HoRecord) : JournalRecord :=
  journalRecord s .hoAccept .accountable r c (BitVec.ofNat 6 (h.timer / 256 % 32)) (s.operatorNumber c)
    (valueWithSet h.timer h.areas)

/-- R91: HO_ACCEPT taken. The HO_ACCEPT record precedes the records of the re-evaluation (6.2, worked example). -/
def takeAccept (s : State) (c : Console) (r : RecordNo) : State × Reply :=
  let h := acceptedRecord s c (s.record r)
  let s1 := recomputeScopes (s.setRecord r h)
  let s2 := offer s1 (acceptRecord s1 r c h)
  let s3 := reevaluateAll s2 (members h.areas)
  taken (setFlagParty .handover h.inConsole (setFlagParty .handover h.outConsole s3))
    (byte2 h.timer ++ boolByte h.held)

/-- R90, R91: HO_ACCEPT. -/
def hoAccept (c : Console) (r : Request) (s : State) : State × Reply :=
  let n := r.b3.toNat
  decided s (acceptChecks s c n) (takeAccept s c (recordOf n))

/-- R90, R91: HO_ACCEPT, as a frame. -/
def execHoAccept (c : Console) (r : Request) (s : State) : Result := request c r (hoAccept c r) s

/-! ## The early ends (5.2) -/

/-- R92: HO_DECLINE. -/
def hoDecline (c : Console) (r : Request) (s : State) : State × Reply :=
  let n := r.b3.toNat
  decided s (hoChecks s c n ++ [needIncoming s c (recordOf n), needPhase s (recordOf n) .offered])
    (taken (endRecord s (recordOf n) .declined .incoming c (s.operatorNumber c)).state [])

/-- R92: HO_DECLINE, as a frame. -/
def execHoDecline (c : Console) (r : Request) (s : State) : Result := request c r (hoDecline c r) s

/-- R93: HO_WITHDRAW. -/
def hoWithdraw (c : Console) (r : Request) (s : State) : State × Reply :=
  let n := r.b3.toNat
  let e := endRecord s (recordOf n) .withdrawn .outgoing c (s.operatorNumber c)
  decided s (hoChecks s c n ++ [needOutgoing s c (recordOf n), fails (!(s.record (recordOf n)).live) .state])
    (taken e.state (byte2 e.completed))

/-- R93: HO_WITHDRAW, as a frame. -/
def execHoWithdraw (c : Console) (r : Request) (s : State) : Result := request c r (hoWithdraw c r) s

/-! ## The checklist (5.3) -/

/-- R95: the record after HO_PRESENT: item 0 always presented, the withdrawn items no longer confirmed, the release
withdrawn. -/
def presentedRecord (h : HoRecord) (items : ItemSet) (mode : Notify) (watch : ItemSet) : HoRecord :=
  { h with
    presented := items ||| 1#16
    confirmed := h.confirmed &&& (items ||| 1#16)
    release := false
    outNotify := mode
    outWatch := watch }

/-- R95: HO_PRESENT taken. -/
def takePresent (s : State) (r : RecordNo) (items : ItemSet) (mode : Notify) (watch : ItemSet) : State × Reply :=
  let h := s.record r
  let h1 := presentedRecord h items mode watch
  let s1 := s.setRecord r h1
  let s2 := if h.release then setFlagParty .handover h.inConsole s1 else s1
  taken (checklistEvents h h1 s2) (itemBytes h1.presented ++ itemBytes h1.confirmed)

/-- R95: HO_PRESENT. The notify mode's one bit is always WORD or ITEMS (R173). -/
def hoPresent (c : Console) (r : Request) (s : State) : State × Reply :=
  let n := packedRecord r.b3
  decided s (hoChecks s c n ++ [needOutgoing s c (recordOf n), needPhase s (recordOf n) .reviewing])
    (takePresent s (recordOf n) (itemSet r.b4 r.b5) (notifyOf r.b3) (itemSet r.b6 r.b7))

/-- R95: HO_PRESENT, as a frame. -/
def execHoPresent (c : Console) (r : Request) (s : State) : Result := request c r (hoPresent c r) s

/-- R96: HO_CONFIRM taken. -/
def takeConfirm (s : State) (r : RecordNo) (items : ItemSet) (mode : Notify) (watch : ItemSet) : State × Reply :=
  let h := s.record r
  let h1 := { h with confirmed := items, inNotify := mode, inWatch := watch }
  taken (checklistEvents h h1 (s.setRecord r h1)) (itemBytes h1.presented ++ itemBytes h1.confirmed)

/-- R96: HO_CONFIRM. -/
def hoConfirm (c : Console) (r : Request) (s : State) : State × Reply :=
  let n := packedRecord r.b3
  let items := itemSet r.b4 r.b5
  decided s
    (hoChecks s c n ++
      [ needIncoming s c (recordOf n)
      , needPhase s (recordOf n) .reviewing
      , fails (items &&& ~~~(s.record (recordOf n)).presented != 0#16) .badOperand ])
    (takeConfirm s (recordOf n) items (notifyOf r.b3) (itemSet r.b6 r.b7))

/-- R96: HO_CONFIRM, as a frame. -/
def execHoConfirm (c : Console) (r : Request) (s : State) : Result := request c r (hoConfirm c r) s

/-! ## Release, gate and take (5.4) -/

/-- R99: the release set as asked, with HANDOVER at the incoming console where that changes it. -/
def takeRelease (s : State) (r : RecordNo) (given : Bool) : State × Reply :=
  let h := s.record r
  let s1 := s.setRecord r { h with release := given }
  taken (if h.release = given then s1 else setFlagParty .handover h.inConsole s1) (boolByte given)

/-- R99: the checks of HO_RELEASE and HO_UNRELEASE. -/
def releaseChecks (s : State) (c : Console) (n : Nat) : List Check :=
  hoChecks s c n ++ [needOutgoing s c (recordOf n), needPhase s (recordOf n) .reviewing]

/-- R99: HO_RELEASE. -/
def hoRelease (c : Console) (r : Request) (s : State) : State × Reply :=
  let n := r.b3.toNat
  decided s (releaseChecks s c n) (takeRelease s (recordOf n) true)

/-- R99: HO_RELEASE, as a frame. -/
def execHoRelease (c : Console) (r : Request) (s : State) : Result := request c r (hoRelease c r) s

/-- R99: HO_UNRELEASE. -/
def hoUnrelease (c : Console) (r : Request) (s : State) : State × Reply :=
  let n := r.b3.toNat
  decided s (releaseChecks s c n) (takeRelease s (recordOf n) false)

/-- R99: HO_UNRELEASE, as a frame. -/
def execHoUnrelease (c : Console) (r : Request) (s : State) : Result := request c r (hoUnrelease c r) s

/-- R100: an area's part of the gate is clear. -/
def Area.gateClear (e : Area) : Bool :=
  match e.gate with
  | 0 => true
  | 1 => e.unack.p1 == 0
  | 2 => e.unack.p1 == 0 && e.unack.p2 == 0

/-- R100: the gate of a record is clear. -/
def gateClear (s : State) (set : AreaSet) : Bool := (members set).all fun a => (s.area a).gateClear

/-- R101: the checks of HO_TAKE. -/
def takeChecks (s : State) (c : Console) (n : Nat) : List Check :=
  let r := recordOf n
  let h := s.record r
  hoChecks s c n ++
  [ needIncoming s c r
  , needPhase s r .reviewing
  , fails h.held .held
  , notReady (!h.release) 1#8
  , notReady (!h.complete) 2#8
  , notReady (!gateClear s h.areas) 3#8
  , fails (h.inOperator != some (s.operatorNumber c)) .notSignedOn ]

/-- R101, R102: HO_TAKE. -/
def hoTake (c : Console) (r : Request) (s : State) : State × Reply :=
  let n := r.b3.toNat
  let e := endRecord s (recordOf n) .committed .take c (s.operatorNumber c)
  decided s (takeChecks s c n) (taken e.state (byte1 e.changed ++ byte2 e.completed))

/-- R101, R102: HO_TAKE, as a frame. -/
def execHoTake (c : Console) (r : Request) (s : State) : Result := request c r (hoTake c r) s

/-! ## The supervisor's force (5.6) -/

/-- R105: the action byte of HO_FORCE: COMMIT 0, CANCEL 1. -/
def forceChecks (s : State) (c : Console) (n action : Nat) : List Check :=
  let r := recordOf n
  let h := s.record r
  let incoming := h.inConsole.getD 0
  [needService s, fails (decide (3 < n) || decide (1 < action)) .badOperand] ++ needSupervisor s c ++
  [ fails (if action = 0 then h.phase != .reviewing else !h.live) .state
  , fails (action == 0 && h.inOperator != (s.operatorAt incoming).map (·.number)) .notSignedOn
  , fails (action == 0 && (members h.areas).any fun a => !s.qualifiedAt incoming a) .notQualified ]

/-- R105: the end that HO_FORCE makes, named after console 0 and its supervisor (R109). -/
def forceEnd (s : State) (r : RecordNo) (action : Nat) : RecordEnd :=
  if action = 0 then endRecord s r .superseded .force 0 (s.operatorNumber 0)
  else endRecord s r .aborted .supervisor 0 (s.operatorNumber 0)

/-- R105: HO_FORCE. -/
def hoForce (c : Console) (r : Request) (s : State) : State × Reply :=
  let n := r.b3.toNat
  let action := r.b4.toNat
  let e := forceEnd s (recordOf n) action
  decided s (forceChecks s c n action) (taken (setFlag .handover e.state 0) (byte1 e.changed ++ byte2 e.completed))

/-- R105: HO_FORCE with COMMIT, as a frame: the action byte is 0 (WellFormed.lean). -/
def execHoForceCommit (c : Console) (r : Request) (s : State) : Result := request c r (hoForce c r) s

/-- R105: HO_FORCE with CANCEL, as a frame: the action byte is 1, or one that the checks refuse (WellFormed.lean). -/
def execHoForceCancel (c : Console) (r : Request) (s : State) : Result := request c r (hoForce c r) s

/-! ## Reading a record (5.8) -/

/-- R108: one page of a handover record. -/
def recordPage (h : HoRecord) (page : Nat) : List Byte :=
  match page with
  | 0 => byte1 h.phase.code ++ optBytes 1 (fun c => byte1 c.val) h.outConsole ++ optBytes 2 byte2 h.outOperator ++
      optBytes 1 (fun c => byte1 c.val) h.inConsole ++ optBytes 2 byte2 h.inOperator ++ areaBytes h.areas
  | 1 => itemBytes h.presented ++ itemBytes h.confirmed ++ boolByte h.release ++ boolByte h.held ++ byte2 h.timer
  | 2 => byte1 h.outNotify.code ++ itemBytes h.outWatch ++ byte1 h.inNotify.code ++ itemBytes h.inWatch
  | _ => optBytes 2 (fun x => byte1 x.1.code ++ byte1 x.2.code) h.lastOutcome

/-- R108: HO_READ. -/
def hoRead (_c : Console) (r : Request) (s : State) : State × Reply :=
  let n := r.b3.toNat
  let page := r.b4.toNat
  decided s [fails (decide (3 < n) || decide (3 < page)) .badOperand] (taken s (recordPage (s.record (recordOf n)) page))

/-- R108: HO_READ, as a frame. -/
def execHoRead (c : Console) (r : Request) (s : State) : Result := request c r (hoRead c r) s

end Sys2Proof.Machine
end

