-- ==== Sys2Proof/Machine/Operators.lean ====
section
/-! DEFINITION. Sign-on, sign-off, the roster's readers, READ_AREA and TAKEOVER (Chapter 1). -/

namespace Sys2Proof.Machine

/-- R12: the roster slot that holds an operator number. -/
def slotOfNumber (s : State) (n : Nat) : Option SlotNo :=
  ((entries s.roster).find? fun x => x.2.any (·.number == n)).map (·.1)

/-- R11: the two fields that agree, written at the same event: a console's signed-on slot and the operator's console. -/
def signOnSlot (s : State) (c : Console) (k : SlotNo) : State :=
  let s1 := s.setDesk c { s.desk c with signedOn := some k }
  { s1 with roster := s1.roster.set k ((s1.roster[k]).map fun op => { op with console := some c }) }

/-- R14: the same two fields of the operator signed off at a console. -/
def signOffSlot (s : State) (c : Console) (k : SlotNo) : State :=
  let s1 := s.setDesk c { s.desk c with signedOn := none }
  { s1 with roster := s1.roster.set k ((s1.roster[k]).map fun op => { op with console := none }) }

/-- R12: the checks of SIGN_ON, for the slot that holds the number. -/
def signOnChecks (s : State) (c : Console) (n : Nat) (k : Option SlotNo) : List Check :=
  [ needService s
  , fails (n == 0 || decide (9999 < n)) .badOperand
  , fails k.isNone .unknownOperator
  , fails ((k.bind fun k => s.roster[k]).any fun op => op.console.any (· != c)) .elsewhere
  , fails (s.desk c).signedOn.isSome .occupied ]

/-- R13: SIGN_ON taken for a slot. The SIGN_ON record precedes the records of the re-evaluation. -/
def takeSignOn (s : State) (c : Console) (k : SlotNo) : State × Reply :=
  let s1 := signOnSlot s c k
  let s2 := offer s1 (journalRecord s1 .signOn .accountable c c 0#6 (s1.operatorNumber c) 0#32)
  let s3 := reevaluateAll s2 (areasOfConsole s2 c)
  taken s3 (byte1 (((s.roster[k]).map (·.role.code)).getD 0))

/-- R12, R13: SIGN_ON. -/
def signOn (c : Console) (r : Request) (s : State) : State × Reply :=
  let n := num16 r.b3 r.b4
  let k := slotOfNumber s n
  decided s (signOnChecks s c n k) (takeSignOn s c (k.getD 0))

/-- R12, R13: SIGN_ON, as a frame. -/
def execSignOn (c : Console) (r : Request) (s : State) : Result := request c r (signOn c r) s

/-- R15: a sign-off ends the live record in which its console is incoming. -/
def abortIncoming (s : State) (c : Console) (op : Nat) : State :=
  match incomingRecord s c with
  | none => s
  | some r => (endRecord s r .aborted .signOff c op).state

/-- R14: SIGN_OFF at a console with an operator signed on. -/
def takeSignOff (s : State) (c : Console) (k : SlotNo) : State :=
  let op := s.operatorNumber c
  let s1 := signOffSlot s c k
  let s2 := offer s1 (journalRecord s1 .signOff .accountable c c 0#6 op 0#32)
  let s3 := abortIncoming s2 c op
  reevaluateAll s3 (areasOfConsole s3 c)

/-- R14: SIGN_OFF. -/
def signOff (c : Console) (_r : Request) (s : State) : State × Reply :=
  match (s.desk c).signedOn with
  | some k => if s.inService then taken (takeSignOff s c k) [] else taken s []
  | none => taken s []

/-- R14: SIGN_OFF, as a frame. -/
def execSignOff (c : Console) (r : Request) (s : State) : Result := request c r (signOff c r) s

/-- R11: READ_SIGNON. With nobody signed on the record holds operator number 0 alone. -/
def readSignon (_c : Console) (r : Request) (s : State) : State × Reply :=
  let n := r.b3.toNat
  let d := s.desk (consoleOf n)
  decided s [fails (decide (3 < n)) .badOperand]
    (taken s (match d.signedOn, s.operatorAt (consoleOf n) with
      | some k, some op => byte2 op.number ++ byte1 op.role.code ++ byte1 k
      | _, _ => byte2 0))

/-- R11: READ_SIGNON, as a frame. -/
def execReadSignon (c : Console) (r : Request) (s : State) : Result := request c r (readSignon c r) s

/-- R11: an operator entry as READ_OPERATOR lays it out; an empty slot is operator number 0 alone
(notes/assumptions/15.md). -/
def operatorBytes : Option Operator → List Byte
  | some op => byte2 op.number ++ byte1 op.role.code ++ [op.classes] ++ optBytes 1 (fun c => byte1 c.val) op.console
  | none => byte2 0

/-- R11: READ_OPERATOR. -/
def readOperator (_c : Console) (r : Request) (s : State) : State × Reply :=
  let n := r.b3.toNat
  decided s [fails (decide (63 < n)) .badOperand] (taken s (operatorBytes (s.roster[slotOf n])))

/-- R11: READ_OPERATOR, as a frame. -/
def execReadOperator (c : Console) (r : Request) (s : State) : Result := request c r (readOperator c r) s

/-- R8: one page of an area entry. -/
def areaPage (s : State) (e : Area) (page : Nat) : List Byte :=
  match page with
  | 0 => byte1 e.owner ++ byte1 e.attendance.code ++
      optBytes 2 (fun r : RecordNo => byte1 r ++ byte1 (s.record r).phase.code) e.record ++
      byte1 e.reqClass ++ byte1 e.jointAck.code ++ byte1 e.gate
  | 1 => byte2 e.unack.p1 ++ byte2 e.unack.p2 ++ byte2 e.unack.p3 ++ byte2 e.unack.p4
  | 2 => byte2 e.standing ++ byte2 e.shelved ++ byte2 e.notGood
  | _ => optBytes 4 byte4 e.attendance.since

/-- R8: READ_AREA. -/
def readArea (_c : Console) (r : Request) (s : State) : State × Reply :=
  let n := r.b3.toNat
  let page := r.b4.toNat
  decided s [fails (decide (23 < n) || decide (3 < page)) .badOperand]
    (taken s (areaPage s (s.area (areaOf n)) page))

/-- R8: READ_AREA, as a frame. -/
def execReadArea (c : Console) (r : Request) (s : State) : Result := request c r (readArea c r) s

/-- R22: the checks of TAKEOVER. -/
def takeoverChecks (s : State) (c : Console) (set : AreaSet) : List Check :=
  [needService s] ++ needSupervisor s c ++
  [ fails (set == 0#24) .badOperand
  , fails ((members set).any fun a => (s.area a).isAttended) .state
  , fails ((members set).any fun a => (s.area a).record.isSome) .inHandover ]

/-- Every area of a set given an owner. -/
def giveAreas (set : AreaSet) (owner : Console) (s : State) : State :=
  (members set).foldl (fun s a => s.setArea a { s.area a with owner := owner }) s

/-- R23: TAKEOVER taken. The TAKEOVER record precedes the records of the re-evaluation. 10.4 gives its value the area set
in bytes 13 to 15 and byte 12 no content: the model writes 0 there (DESIGN CHOICE, notes/assumptions/31.md). -/
def takeTakeover (s : State) (set : AreaSet) : State × Reply :=
  let lost := allFour.filter fun c => c != 0 && (members set).any fun a => (s.area a).owner == c
  let changed := countAreas (fun a => (s.area a).owner != 0) (members set)
  let s1 := recomputeScopes (giveAreas set 0 s)
  let s2 := offer s1 (journalRecord s1 .takeover .accountable 0 0 0#6 (s1.operatorNumber 0) (valueWithSet 0 set))
  let s3 := reevaluateAll s2 (members set)
  taken (setFlagAt .handover (0 :: lost) s3) (byte1 changed)

/-- R22, R23: TAKEOVER. -/
def takeover (c : Console) (r : Request) (s : State) : State × Reply :=
  let set := areaSet r.b3 r.b4 r.b5
  decided s (takeoverChecks s c set) (takeTakeover s set)

/-- R22, R23: TAKEOVER, as a frame. -/
def execTakeover (c : Console) (r : Request) (s : State) : Result := request c r (takeover c r) s

end Sys2Proof.Machine
end

