-- ==== Sys2Proof/Machine/Ports.lean ====
section
/-! DEFINITION. The commands of the console ports (Chapter 10): NOP, READ_MORE, PORT_RESET, the event flags, the mask,
READ_CONDITIONS, and the frames that carry no command. -/

namespace Sys2Proof.Machine

/-- R168: the response of NOP and READ_MORE, which leave the result record as it was. -/
def respondKeeping (c : Console) (resp : Response) (s : State) : State :=
  s.setPort c { s.port c with response := resp }

/-- R166, R168: NOP. Its own response becomes pending, with 0 in bytes 3 to 7. -/
def execNop (c : Console) (r : Request) (s : State) : Result :=
  event (respondKeeping c (responseOf .ok r.tag []) (frameArrives c s))

/-- R168: the reply of READ_MORE to a part number, over a result record. -/
def readMoreReply (part : Nat) (record : List Byte) : Reply :=
  if 3 < part then ⟨.badOperand, []⟩
  else if record.length ≤ 5 * part then ⟨.endOfList, []⟩
  else ⟨.ok, record.drop (5 * part)⟩

/-- R168: READ_MORE. -/
def execReadMore (c : Console) (r : Request) (s : State) : Result :=
  let s1 := frameArrives c s
  let rp := readMoreReply r.b3.toNat (s1.port c).result
  event (respondKeeping c (responseOf rp.status r.tag rp.record) s1)

/-- R172: a port after PORT_RESET; the mask is kept. -/
def Port.cleared (p : Port) : Port := { p with response := .idle, result := [], flags := 0#9, cursor := .closed }

/-- R172: PORT_RESET. Its port's pending response becomes IDLE, so the request makes no response of its own. -/
def execPortReset (c : Console) (_r : Request) (s : State) : Result :=
  let s1 := frameArrives c s
  event (s1.setPort c (s1.port c).cleared)

/-- R169: READ_FLAGS. A 1 in the mask's set is an open flag: R170 gives open and closed no code (DESIGN CHOICE,
notes/assumptions/14.md). -/
def readFlags (c : Console) (_r : Request) (s : State) : State × Reply :=
  let p := s.port c
  taken s (flagBytes p.flags ++ flagBytes p.mask ++ boolByte p.lineDriven)

/-- R169: READ_FLAGS, as a frame. -/
def execReadFlags (c : Console) (r : Request) (s : State) : Result := request c r (readFlags c r) s

/-- R169: CLEAR_FLAGS. -/
def clearFlags (c : Console) (r : Request) (s : State) : State × Reply :=
  let p := s.port c
  let left := p.flags &&& ~~~(flagSet r.b3 r.b4)
  decided s [needService s] (taken (s.setPort c { p with flags := left }) (flagBytes left))

/-- R169: CLEAR_FLAGS, as a frame. -/
def execClearFlags (c : Console) (r : Request) (s : State) : Result := request c r (clearFlags c r) s

/-- R170: SET_MASK. The result holds the mask as the set of its open flags, 1 for open: R170 gives open and closed no
code (DESIGN CHOICE, notes/assumptions/14.md). -/
def setMask (c : Console) (r : Request) (s : State) : State × Reply :=
  let mask := flagSet r.b3 r.b4
  decided s [needService s] (taken (s.setPort c { s.port c with mask := mask }) (flagBytes mask))

/-- R170: SET_MASK, as a frame. -/
def execSetMask (c : Console) (r : Request) (s : State) : Result := request c r (setMask c r) s

/-- R171: the set of ABSENT consoles, console 0 in the least significant bit (R173). -/
def absentSet (s : State) : Byte := (BitVec.ofFnLE fun c : Console => !s.presentAt c).setWidth 8

/-- R171: READ_CONDITIONS. -/
def readConditions (c : Console) (_r : Request) (s : State) : State × Reply :=
  taken s
    (byte1 s.receiver.link.code ++ byte1 s.journal.stream.code ++ boolByte s.journal.lossPending ++
      boolByte (anyFlood s (s.horn c).scope) ++ boolByte (hornDriven s c) ++ [absentSet s] ++ byte1 s.mode.code)

/-- R171: READ_CONDITIONS, as a frame. -/
def execReadConditions (c : Console) (r : Request) (s : State) : Result := request c r (readConditions c r) s

/-- R167: a frame with a bad check is answered BAD_CHECK with its tag; the result record is kept, and presence is not
refreshed (R111). -/
def execBadCheck (c : Console) (tag : Byte) (s : State) : Result :=
  event (respondKeeping c (responseOf .badCheck tag []) s)

/-- R167, R168: a good frame with an unlisted code is answered BAD_COMMAND with a record of 0 bytes. -/
def execBadCommand (c : Console) (_code : Byte) (r : Request) (s : State) : Result :=
  request c r (fun s => (s, ⟨.badCommand, []⟩)) s

/-- R166: a frame cut short is discarded: no response, no presence, and the pending response stays pending. -/
def execShortFrame (_c : Console) (s : State) : Result := event s

end Sys2Proof.Machine
end

