-- ==== Sys2Proof/Machine/Settings.lean ====
section
/-! DEFINITION. The eight configuration writes (Chapters 1, 2, 4, 7 and 11). -/

namespace Sys2Proof.Machine

/-- R174: the two checks that every configuration write passes first. -/
def cfgChecks (s : State) (c : Console) : List Check := [needConfiguring s, needLead c]

/-! ## CFG_POINT (R24) -/

/-- R24, R173: the six fields CFG_POINT writes, over the point's live fields. A bit set is yes (DESIGN CHOICE,
notes/assumptions/14.md). -/
def writtenPoint (q : Point) (flags grade : Byte) : Point :=
  { q with
    configured := flags.getLsbD 7
    area := areaOf (flags.toNat % 32)
    priority := (priorityOf (highNibble grade)).getD .p1
    group := Fin.ofNat 9 (lowNibble grade)
    shelvable := flags.getLsbD 6 }

/-- R24: the checks of CFG_POINT. -/
def cfgPointChecks (s : State) (c : Console) (n : Nat) (flags grade : Byte) : List Check :=
  cfgChecks s c ++
  [ fails (decide (511 < n)) .badOperand
  , fails (decide (23 < flags.toNat % 32) || (priorityOf (highNibble grade)).isNone || decide (8 < lowNibble grade))
      .badOperand ]

/-- R174: the values CFG_POINT has stored. -/
def pointConfigBytes (q : Point) : List Byte :=
  boolByte q.configured ++ byte1 q.area ++ byte1 q.priority.number ++ byte1 q.group ++ boolByte q.shelvable

/-- R24: CFG_POINT. Of the six fields that R24 names, the point number stands first among the values returned, though the
other configuration writes return no area, slot or selector (DESIGN CHOICE, notes/assumptions/15.md). -/
def cfgPoint (c : Console) (r : Request) (s : State) : State × Reply :=
  let n := num16 r.b3 r.b4
  let q := writtenPoint (s.point (pointOf n)) r.b5 r.b6
  decided s (cfgPointChecks s c n r.b5 r.b6)
    (taken (s.setPoint (pointOf n) q) (byte2 n ++ pointConfigBytes q))

/-- R24: CFG_POINT, as a frame. -/
def execCfgPoint (c : Console) (r : Request) (s : State) : Result := request c r (cfgPoint c r) s

/-! ## CFG_AREA (R1, R175) -/

/-- R1, R175: the area entry after CFG_AREA. -/
def writtenArea (e : Area) (cls mode gate : Nat) : Area :=
  { e with reqClass := Fin.ofNat 7 cls, jointAck := (jointAckOf mode).getD .either, gate := Fin.ofNat 3 gate }

/-- R1, R175: CFG_AREA. -/
def cfgArea (c : Console) (r : Request) (s : State) : State × Reply :=
  let n := r.b3.toNat
  let cls := r.b4.toNat
  let mode := r.b5.toNat
  let gate := r.b6.toNat
  decided s
    (cfgChecks s c ++
      [fails (decide (23 < n) || decide (6 < cls) || (jointAckOf mode).isNone || decide (2 < gate)) .badOperand])
    (taken (s.setArea (areaOf n) (writtenArea (s.area (areaOf n)) cls mode gate))
      (byte1 cls ++ byte1 mode ++ byte1 gate))

/-- R1, R175: CFG_AREA, as a frame. -/
def execCfgArea (c : Console) (r : Request) (s : State) : Result := request c r (cfgArea c r) s

/-! ## CFG_OPERATOR (R9) -/

/-- R9: the slot's content after CFG_OPERATOR: number 0 empties it, and a SUPERVISOR holds class 7. -/
def writtenOperator (n : Nat) (role : Role) (classes : ClassSet) : Option Operator :=
  if n = 0 then none
  else some
    { number := n, role := role, classes := if role = .supervisor then classes ||| 0x80#8 else classes
      console := none }

/-- R9: the checks of CFG_OPERATOR. -/
def cfgOperatorChecks (s : State) (c : Console) (k n role : Nat) (classes : ClassSet) : List Check :=
  cfgChecks s c ++
  [ fails (decide (63 < k)) .badOperand
  , fails (decide (9999 < n)) .badOperand
  , fails (roleOf role).isNone .badOperand
  , fails (classes.getLsbD 7 && roleOf role != some .supervisor) .badOperand
  , fails (n != 0 && (entries s.roster).any fun x => x.1 != slotOf k && x.2.any (·.number == n)) .duplicate ]

/-- R9: CFG_OPERATOR. R174 returns the values stored, and of a slot emptied by number 0 it does not say which those
are: the model returns the number 0 alone, two bytes (DESIGN CHOICE, notes/assumptions/15.md). -/
def cfgOperator (c : Console) (r : Request) (s : State) : State × Reply :=
  let k := r.b3.toNat
  let n := num16 r.b4 r.b5
  let op := writtenOperator n ((roleOf r.b6.toNat).getD .trainee) r.b7
  decided s (cfgOperatorChecks s c k n r.b6.toNat r.b7)
    (taken { s with roster := s.roster.set (slotOf k) op }
      (match op with
        | some op => byte2 op.number ++ byte1 op.role.code ++ [op.classes]
        | none => byte2 0))

/-- R9: CFG_OPERATOR, as a frame. -/
def execCfgOperator (c : Console) (r : Request) (s : State) : Result := request c r (cfgOperator c r) s

/-! ## CFG_TIMING and CFG_LINKS (R175) -/

/-- R175: the value range of a CFG_TIMING selector. -/
def timingRange (sel v : Nat) : Bool :=
  match sel with
  | 0 => decide (30 ≤ v) && decide (v ≤ 1800)
  | 1 => decide (60 ≤ v) && decide (v ≤ 7200)
  | 2 => decide (1 ≤ v) && decide (v ≤ 20)
  | 3 => decide (10 ≤ v) && decide (v ≤ 600)
  | _ => false

/-- R175: the settings after CFG_TIMING. -/
def writtenTiming (t : Timing) (sel v : Nat) : Timing :=
  match sel with
  | 0 => { t with offerTimeout := v }
  | 1 => { t with reviewTimeout := v }
  | 2 => { t with absenceHalfSeconds := v }
  | _ => { t with escalationDelay := v }

/-- R175: CFG_TIMING. -/
def cfgTiming (c : Console) (r : Request) (s : State) : State × Reply :=
  let sel := r.b3.toNat
  let v := num16 r.b4 r.b5
  decided s (cfgChecks s c ++ [fails (!timingRange sel v) .badOperand])
    (taken { s with timing := writtenTiming s.timing sel v } (byte2 v))

/-- R175: CFG_TIMING, as a frame. -/
def execCfgTiming (c : Console) (r : Request) (s : State) : Result := request c r (cfgTiming c r) s

/-- R175: the value range of a CFG_LINKS selector. -/
def linksRange (sel v : Nat) : Bool :=
  match sel with
  | 0 => decide (v ≤ 3)
  | 1 => decide (1 ≤ v) && decide (v ≤ 10)
  | 2 => decide (v ≤ 4)
  | _ => false

/-- R140: a change of the field baud rate discards any partial record and starts the search afresh; the same rate
leaves the receiver as it is. -/
def writeBaud (s : State) (v : Nat) : State :=
  let s1 := { s with timing := { s.timing with fieldBaud := v } }
  if v = s.timing.fieldBaud then s1 else { s1 with receiver := { s.receiver with framing := .searching [] } }

/-- R175, R158: the settings after CFG_LINKS; a new journal rate takes effect from the next unit. -/
def writtenLinks (s : State) (sel v : Nat) : State :=
  match sel with
  | 0 => writeBaud s v
  | 1 => { s with timing := { s.timing with linkLossTime := v } }
  | _ => { s with journal := { s.journal with rate := v } }

/-- R175: CFG_LINKS. -/
def cfgLinks (c : Console) (r : Request) (s : State) : State × Reply :=
  let sel := r.b3.toNat
  let v := num16 r.b4 r.b5
  decided s (cfgChecks s c ++ [fails (!linksRange sel v) .badOperand]) (taken (writtenLinks s sel v) (byte2 v))

/-- R175: CFG_LINKS, as a frame. -/
def execCfgLinks (c : Console) (r : Request) (s : State) : Result := request c r (cfgLinks c r) s

/-! ## CFG_FLOOD (R68) -/

/-- R68: a value of CFG_FLOOD is out of range for its selector. -/
def floodOutOfRange (sel a b : Nat) : Bool :=
  if sel < 24 then a == 0 || decide (32767 < a) || decide (32767 < b)
  else sel == 28 && (a == 0 || decide (10 < a))

/-- R68: the priority of a weight selector 24 to 27. -/
def weightPriority (sel : Nat) : Priority := (priorityOf (sel - 23)).getD .p1

/-- R68: the flood parameters after CFG_FLOOD; a weight above 4095 is stored as 4095. -/
def writtenFlood (s : State) (sel a b : Nat) : State :=
  if sel < 24 then s.setArea (areaOf sel) { s.area (areaOf sel) with tOn := a, tOffWritten := b }
  else if sel = 28 then { s with decayShift := a }
  else { s with weights := s.weights.put (weightPriority sel) (min 4095 a) }

/-- R68: the values stored. -/
def floodConfigBytes (sel a b : Nat) : List Byte :=
  if sel < 24 then byte2 a ++ byte2 b else if sel = 28 then byte1 a else byte2 (min 4095 a)

/-- R68: CFG_FLOOD. -/
def cfgFlood (c : Console) (r : Request) (s : State) : State × Reply :=
  let sel := r.b3.toNat
  let a := num16 r.b4 r.b5
  let b := num16 r.b6 r.b7
  decided s (cfgChecks s c ++ [fails (decide (28 < sel)) .badOperand, fails (floodOutOfRange sel a b) .badOperand])
    (taken (writtenFlood s sel a b) (floodConfigBytes sel a b))

/-- R68: CFG_FLOOD, as a frame. -/
def execCfgFlood (c : Console) (r : Request) (s : State) : Result := request c r (cfgFlood c r) s

/-! ## CFG_BOARD (R139) -/

/-- R173: the four-bit code fields of three bytes, high half of each byte first. -/
def codeFields (b1 b2 b3 : Byte) : List Nat :=
  [highNibble b1, lowNibble b1, highNibble b2, lowNibble b2, highNibble b3, lowNibble b3]

/-- R139: the operands of CFG_BOARD are within their ranges. -/
def boardInRange (r : Request) : Bool :=
  match r.b3.toNat with
  | 0 => (patternKindOf r.b4.toNat).isSome && [1, 2, 4, 8].contains r.b5.toNat && decide (1 ≤ r.b6.toNat) &&
      decide (r.b6.toNat ≤ 8)
  | 1 => decide (1 ≤ r.b4.toNat) && decide (r.b4.toNat ≤ 12) && (codeFields r.b5 r.b6 r.b7).all fun k => decide (k ≤ 12)
  | 2 => (codeFields r.b4 r.b5 r.b6).all fun k => decide (k ≤ 12)
  | _ => false

/-- R139: six codes written from a place on. -/
def putCodes (v : Vector (Fin 13) 12) (at_ : Nat) (codes : List Nat) : Vector (Fin 13) 12 :=
  (codes.zip [0, 1, 2, 3, 4, 5]).foldl (fun v x => v.set (Fin.ofNat 12 (at_ + x.2)) (Fin.ofNat 13 x.1)) v

/-- R139: the pattern after CFG_BOARD. -/
def writtenPattern (p : Pattern) (r : Request) : Pattern :=
  match r.b3.toNat with
  | 0 => { p with kind := (patternKindOf r.b4.toNat).getD .bars, bars := r.b5.toNat, width := r.b6.toNat }
  | 1 => { p with length := r.b4.toNat, codes := putCodes p.codes 0 (codeFields r.b5 r.b6 r.b7) }
  | _ => { p with codes := putCodes p.codes 6 (codeFields r.b4 r.b5 r.b6) }

/-- R139: the fields written, as CFG_BOARD returns them. -/
def boardConfigBytes (r : Request) : List Byte :=
  match r.b3.toNat with
  | 0 => [r.b4, r.b5, r.b6]
  | 1 => r.b4 :: (codeFields r.b5 r.b6 r.b7).map (BitVec.ofNat 8)
  | _ => (codeFields r.b4 r.b5 r.b6).map (BitVec.ofNat 8)

/-- R139: CFG_BOARD. -/
def cfgBoard (c : Console) (r : Request) (s : State) : State × Reply :=
  decided s (cfgChecks s c ++ [fails (!boardInRange r) .badOperand])
    (taken { s with pattern := writtenPattern s.pattern r } (boardConfigBytes r))

/-- R139: CFG_BOARD, as a frame. -/
def execCfgBoard (c : Console) (r : Request) (s : State) : Result := request c r (cfgBoard c r) s

/-! ## CFG_CLOCK (R176) -/

/-- R176: CFG_CLOCK: the divider's count starts afresh, and the run clock is not changed. -/
def cfgClock (c : Console) (r : Request) (s : State) : State × Reply :=
  let n := num16 r.b3 r.b4
  decided s (cfgChecks s c ++ [fails (n == 0) .badOperand])
    (taken { s with time := { s.time with refDivide := n, divideCount := 0 } } (byte2 n))

/-- R176: CFG_CLOCK, as a frame. -/
def execCfgClock (c : Console) (r : Request) (s : State) : Result := request c r (cfgClock c r) s

end Sys2Proof.Machine
end

