-- ==== Sys2Proof/Machine/Service.lean ====
section
/-! DEFINITION. Service control (Chapter 11): the restart live state, COMMIT_CONFIG, RESTART, RECONFIGURE, and the
power-on reset. -/

namespace Sys2Proof.Machine

/-! ## The restart live state (R178), block by block -/

/-- R25: the live values of a point; its configuration fields are kept. -/
def Point.live (q : Point) : Point :=
  { q with
    input := .normal, quality := .stale, state := .normal, ackSet := [], serial := none, raiseTime := none
    ack := none, firstMark := none, quiet := false }

/-- R7, R39: the number of configured points of an area, all of which are then not GOOD. -/
def configuredIn (s : State) (a : AreaNo) : Nat := (areaPoints s a).length

/-- R2, R4, R7, R67: an area at a restart: UNATTENDED since the event, with no record, load 0 and NORMAL; every
configured point is STALE, and none counts otherwise. -/
def Area.live (now : Word32) (notGood : Nat) (e : Area) : Area :=
  { e with
    attendance := .unattended now, record := none, unack := ⟨0, 0, 0, 0⟩, standing := 0, shelved := 0
    notGood := notGood, load := 0, flood := .normal }

/-- R11: an operator signed off. -/
def Operator.signedOff (op : Operator) : Operator := { op with console := none }

/-- R110, R11: a console at a restart; its presence deadline runs where the part is then IN_SERVICE. -/
def restartDesk (s : State) : Desk :=
  { presence := .present (if s.inService then some (after s.time.runClock s.timing.absenceMs) else none)
    lastHeard := s.time.runClock
    signedOn := none }

/-- R141: the field receiver at a restart: the framing state and the bytes held are kept. -/
def restartReceiver (s : State) : Receiver :=
  { framing := s.receiver.framing
    expected := none
    link := .ok (if s.inService then some (after s.time.runClock s.timing.linkLossMs) else none)
    lastValid := s.time.runClock
    counts := ⟨0, 0, 0, 0⟩ }

/-- R42: an open cursor goes back before the first entry, with its scope. -/
def Cursor.reopened : Cursor → Cursor
  | .closed => .closed
  | cur => .beforeFirst cur.scope

/-- R166, R42: a port at a restart: every port but the requesting one takes the IDLE response and an empty result
record; flags and mask are kept. -/
def restartPort (c : Console) (i : Console) (p : Port) : Port :=
  if i = c then { p with cursor := p.cursor.reopened }
  else { p with response := .idle, result := [], cursor := p.cursor.reopened }

/-- R178: the restart live state, with the device state already that of the event; `c` is the requesting console. -/
def restartLive (c : Console) (s : State) : State :=
  recomputeScopes
    { s with
      points := mapTable Point.live s.points
      serialNext := 1
      areas := ⟨⟨(entries s.areas).map fun x => x.2.live s.time.runClock (configuredIn s x.1)⟩, by simp [entries]⟩
      roster := mapTable (fun slot => slot.map Operator.signedOff) s.roster
      desks := table4 fun _ => restartDesk s
      groups := Vector.replicate 8 .armed
      shelf := []
      records := Vector.replicate 4 .reset
      horns := mapTable (fun h => { h with silenced := [], chirp := none }) s.horns
      receiver := restartReceiver s
      ports := table4 fun i => restartPort c i (s.port i) }

/-! ## After the live state -/

/-- The three events that set the restart live state, in the order that R151 and 10.4 list them. -/
inductive RestartEvent where
  | commitConfig
  | restart
  | reconfigure
  deriving DecidableEq, Repr

/-- 10.4: the subject of a RESTART record. -/
def RestartEvent.code : RestartEvent → Nat
  | .commitConfig => 0
  | .restart => 1
  | .reconfigure => 2

/-- R165: the RESTART record, offered under R155 alone; point 510's events follow the offer (R157). -/
def restartRecord (s : State) (e : RestartEvent) (op : Nat) : State :=
  settle510 (offerAlone s (lossRecord s .restart .accountable e.code op))

/-- R26: the input event that brings a system point to its source's condition. -/
def bringPoint (p : PointNo) (cond : State → Bool) (s : State) : State :=
  systemPoint s p (if cond s then .active else .normal)

/-- R26: after COMMIT_CONFIG and RESTART each system point takes its source's condition at that moment, in the order
508, 509, 510, 511. -/
def bringSystemPoints (s : State) : State :=
  let lost (s : State) : Bool := s.receiver.link.code == 1
  bringPoint 511 lost (bringPoint 510 (fun s => s.journal.lossPending)
    (bringPoint 509 State.anyAbsent (bringPoint 508 State.anyEscalated s)))

/-- R178, R165: the restart live state, then the RESTART record, whose operator is the one signed on at console 0 when
the request arrived. -/
def restarted (c : Console) (e : RestartEvent) (op : Nat) (s : State) : State :=
  restartRecord (restartLive c s) e op

/-! ## COMMIT_CONFIG (R177) -/

/-- R69: the applied T_off of an area: the written one if it is below T_on, and T_on − 1 otherwise. -/
def Area.applyToff (e : Area) : Area :=
  { e with tOffApplied := if e.tOffWritten < e.tOn then e.tOffWritten else e.tOn - 1 }

/-- R121: a desk line at COMMIT_CONFIG: its candidate level stands afresh. -/
def DeskLine.since0 (now : Word32) (l : DeskLine) : DeskLine := { l with since := now }

/-- R121: the three lines of a desk at COMMIT_CONFIG. -/
def DeskLines.committed (now : Word32) (d : DeskLines) : DeskLines :=
  { ack := d.ack.since0 now, silence := d.silence.since0 now, test := d.test.since0 now }

/-- R177 steps 1 and 2, with the debounce of R121: what COMMIT_CONFIG sets before the restart live state. -/
def committedSettings (s : State) : State :=
  { s with
    areas := mapTable Area.applyToff s.areas
    mode := .inService
    lines := mapTable (DeskLines.committed s.time.runClock) s.lines }

/-- R177: the number of areas whose applied T_off differs from the written one. -/
def clampedAreas (s : State) : Nat := (s.areas.toList.filter fun e => e.tOffApplied != e.tOffWritten).length

/-- R177: the number of configured points. -/
def configuredPoints (s : State) : Nat := (s.points.toList.filter (·.configured)).length

/-- R177, R132: COMMIT_CONFIG taken; the first board frame starts at this event and takes the state it leaves. -/
def takeCommit (s : State) (c : Console) : State × Reply :=
  let s1 := committedSettings s
  taken (startFrame (bringSystemPoints (restarted c .commitConfig (s.operatorNumber 0) s1)))
    (byte1 (clampedAreas s1) ++ byte2 (configuredPoints s1))

/-- R177: COMMIT_CONFIG. -/
def commitConfig (c : Console) (_r : Request) (s : State) : State × Reply :=
  decided s (cfgChecks s c) (takeCommit s c)

/-- R177: COMMIT_CONFIG, as a frame. -/
def execCommitConfig (c : Console) (r : Request) (s : State) : Result := request c r (commitConfig c r) s

/-! ## RESTART and RECONFIGURE (R178) -/

/-- R178: the checks of RESTART and RECONFIGURE. -/
def restartChecks (s : State) (c : Console) : List Check := needService s :: needSupervisor s c

/-- R178: RESTART taken. -/
def takeRestart (s : State) (c : Console) : State := bringSystemPoints (restarted c .restart (s.operatorNumber 0) s)

/-- R178: RESTART. -/
def restart (c : Console) (_r : Request) (s : State) : State × Reply :=
  decided s (restartChecks s c) (taken (takeRestart s c) [])

/-- R178: RESTART, as a frame. -/
def execRestart (c : Console) (r : Request) (s : State) : Result := request c r (restart c r) s

/-- R121: the lines of a desk at power-on and at the entry to CONFIGURING: each line's level is its candidate level. Of
the candidate-since time, also 'taken from the line as it stands', R121 does not say whether it is the run clock of this
event or of the line's last change: the model takes that of this event (DESIGN CHOICE, notes/assumptions/30.md). -/
def DeskLines.afresh (now : Word32) (d : DeskLines) : DeskLines :=
  { ack := .reset d.ack.line now, silence := .reset d.silence.line now, test := .reset d.test.line now }

/-- R178, R132, R136, R121: RECONFIGURE taken. -/
def takeReconfigure (s : State) (c : Console) : State :=
  let s1 := { s with
    mode := .configuring, lampTest := .idle, lines := mapTable (DeskLines.afresh s.time.runClock) s.lines }
  startBlankFrame (restarted c .reconfigure (s.operatorNumber 0) s1)

/-- R178: RECONFIGURE. -/
def reconfigure (c : Console) (_r : Request) (s : State) : State × Reply :=
  decided s (restartChecks s c) (taken (takeReconfigure s c) [])

/-- R178: RECONFIGURE, as a frame. -/
def execReconfigure (c : Console) (r : Request) (s : State) : Result := request c r (reconfigure c r) s

/-! ## Power-on (R180) -/

/-- R180: while the reset input is asserted, every horn, the common alarm line and every interrupt line is released, and
the journal transmit line is idle. The console data outputs, then high-impedance, are `State.dataOut`. -/
def resetAsserted (s : State) : State :=
  { s with
    horns := mapTable (fun h => { h with out := false }) s.horns
    ports := mapTable (fun p => { p with irq := false }) s.ports
    commonAlarm := false
    journal := { s.journal with lineByte := .none } }

/-- R180, R121: the part at the release of reset: what stands outside it (the line levels, the ready input, and the
words and lamps of the board's drivers) is kept, and so is the queue of commands. -/
def poweredOn (s : State) : State :=
  State.powerOnValues s.pending (mapTable (DeskLines.afresh 0#32) s.lines) s.journal.ready s.board.chain s.board.lamps

/-- R180: POWER_ON: the assertion of the reset input and its release, one event with nothing between (DESIGN CHOICE,
notes/assumptions/25.md). -/
def execPowerOn (s : State) : Result := event (poweredOn (resetAsserted s))

end Sys2Proof.Machine
end

