-- ==== Sys2Proof/Machine/Shelf.lean ====
section
/-! DEFINITION. The shelf, the requests of the first-out groups, and READ_FLOOD (Chapters 3 and 4). -/

namespace Sys2Proof.Machine

/-! ## The shelf (3.2) -/

/-- R57: the time remaining to an expiry, in milliseconds. -/
def remaining (s : State) (expiry : Word32) : Nat := (expiry - s.time.runClock).toNat

/-- R56: an entry placed by its time remaining, after every entry with the same expiry. -/
def placeEntry (s : State) (e : ShelfEntry) : List ShelfEntry → List ShelfEntry
  | [] => [e]
  | x :: rest => if remaining s x.expiry ≤ remaining s e.expiry then x :: placeEntry s e rest else e :: x :: rest

/-- R56: the shelf without a point's entry. -/
def withoutPoint (p : PointNo) (l : List ShelfEntry) : List ShelfEntry := l.filter (·.point != p)

/-- R56: a point has a shelf entry. -/
def onShelf (s : State) (p : PointNo) : Bool := s.shelf.any (·.point == p)

/-- R58: the minutes applied: above 480 they are taken as 480. -/
def appliedMinutes (m : Nat) : Nat := min 480 m

/-- R58: the checks of SHELVE. -/
def shelveChecks (s : State) (c : Console) (n minutes : Nat) : List Check :=
  let p := pointOf n
  let q := s.point p
  [needService s] ++ needOperator s c ++
  [ fails (decide (511 < n) || !q.configured) .badOperand
  , fails (minutes == 0) .badOperand
  , fails ((s.area q.area).owner != c) .noAuthority
  , fails (s.area q.area).record.isSome .inHandover
  , fails (!q.shelvable) .notShelvable
  , fails (decide (32 ≤ s.shelf.length) && !onShelf s p) .full ]

/-- R35: a point put on the shelf: its episode ends and its fields are dropped; the first mark is kept. -/
def Point.shelve (q : Point) : Point :=
  { q with state := .shelved, serial := none, raiseTime := none, ackSet := [], ack := none, quiet := false }

/-- R57: the entry that SHELVE places. -/
def newEntry (s : State) (c : Console) (p : PointNo) (minutes : Nat) : ShelfEntry :=
  { point := p, expiry := after s.time.runClock (minutes * 60000), console := c, operator := s.operatorNumber c }

/-- R59, R60: SHELVE taken. A point already on the shelf is re-shelved, and no field of it changes. Bytes 14 and 15 of
the SHELVE record, which 10.4 gives no content, are 0 (DESIGN CHOICE, notes/assumptions/31.md). -/
def takeShelve (s : State) (c : Console) (p : PointNo) (minutes : Nat) : State × Reply :=
  let s1 := { s with shelf := placeEntry s (newEntry s c p minutes) (withoutPoint p s.shelf) }
  let s2 := if onShelf s p then s1 else unsilence p (s1.setPoint p (s1.point p).shelve)
  let s3 := offer s2
    (journalRecord s2 .shelve .accountable p c 0#6 (s.operatorNumber c) (valueHalves minutes 0))
  taken s3 (byte2 minutes ++ byte1 s1.shelf.length)

/-- R58 to R60: SHELVE. -/
def shelve (c : Console) (r : Request) (s : State) : State × Reply :=
  let n := num16 r.b3 r.b4
  let minutes := num16 r.b5 r.b6
  decided s (shelveChecks s c n minutes) (takeShelve s c (pointOf n) (appliedMinutes minutes))

/-- R58 to R60: SHELVE, as a frame. -/
def execShelve (c : Console) (r : Request) (s : State) : Result := request c r (shelve c r) s

/-- R63, R35: a point whose entry has left the shelf returns to the sequence, and SHELF is set at its area's owner. -/
def shelfReturn (s : State) (p : PointNo) : State :=
  let q := s.point p
  let s1 := match q.input with
    | .active => handled p (fun off s => raisePoint off s p) s
    | .normal => toldNormal (s.setPoint p { q with state := .normal }) p
  setFlag .shelf s1 (s1.area q.area).owner

/-- R61: the checks of UNSHELVE. -/
def unshelveChecks (s : State) (c : Console) (n : Nat) : List Check :=
  let p := pointOf n
  let q := s.point p
  [needService s] ++ needOperator s c ++
  [ fails (decide (511 < n) || !q.configured) .badOperand
  , fails ((s.area q.area).owner != c) .noAuthority
  , fails (!onShelf s p) .state ]

/-- R61: UNSHELVE taken. -/
def takeUnshelve (s : State) (c : Console) (p : PointNo) : State × Reply :=
  let s1 := { s with shelf := withoutPoint p s.shelf }
  let s2 := offer s1 (journalRecord s1 .unshelve .accountable p c 0#6 (s.operatorNumber c) 0#32)
  let s3 := shelfReturn s2 p
  taken s3 (byte1 (match (s2.point p).input with
    | .active => Annunciation.raised.code
    | .normal => Annunciation.normal.code))

/-- R61: UNSHELVE. -/
def unshelve (c : Console) (r : Request) (s : State) : State × Reply :=
  let n := num16 r.b3 r.b4
  decided s (unshelveChecks s c n) (takeUnshelve s c (pointOf n))

/-- R61: UNSHELVE, as a frame. -/
def execUnshelve (c : Console) (r : Request) (s : State) : Result := request c r (unshelve c r) s

/-- R62: one entry runs out: it leaves the shelf, its EXPIRE record is produced, and its point returns. -/
def expireEntry (s : State) (e : ShelfEntry) : State :=
  let s1 := { s with shelf := withoutPoint e.point s.shelf }
  let s2 := offer s1 (journalRecord s1 .expire .accountable e.point e.console 0#6 e.operator 0#32)
  shelfReturn s2 e.point

/-- R62: the entries at the head of the shelf whose expiry is reached. -/
def dueEntries (s : State) : List ShelfEntry :=
  if s.inService then s.shelf.takeWhile fun e => reached s.time.runClock e.expiry else []

/-- R62: every entry that is due runs out, in shelf order. -/
def expireDue (s : State) : State := (dueEntries s).foldl expireEntry s

/-- R66: the time remaining in seconds, rounded up; an expiry that has been reached has none. -/
def remainingSeconds (s : State) (expiry : Word32) : Nat :=
  if reached s.time.runClock expiry then 0 else (remaining s expiry + 999) / 1000

/-- R66: a shelf entry as READ_SHELF returns it. -/
def shelfBytes (s : State) (e : ShelfEntry) : List Byte :=
  byte2 e.point ++ byte4 e.expiry ++ byte2 (remainingSeconds s e.expiry) ++ byte1 e.console ++ byte2 e.operator ++
    byte1 s.shelf.length

/-- R66: READ_SHELF. -/
def readShelf (_c : Console) (r : Request) (s : State) : State × Reply :=
  let n := r.b3.toNat
  decided s [fails (decide (31 < n)) .badOperand]
    (match s.shelf[n]? with
      | none => (s, ⟨.endOfList, []⟩)
      | some e => taken s (shelfBytes s e))

/-- R66: READ_SHELF, as a frame. -/
def execReadShelf (c : Console) (r : Request) (s : State) : Result := request c r (readShelf c r) s

/-! ## First-out groups (3.1) -/

/-- R54: the owner console of the area of a tripped group's first point. -/
def firstPointOwner (s : State) (g : GroupNo) : Option Console :=
  match s.groups[g] with
  | .armed => none
  | .tripped p => some (s.area (s.point p).area).owner

/-- R54: the checks of REARM_GROUP. -/
def rearmChecks (s : State) (c : Console) (n : Nat) : List Check :=
  let g := groupOf n
  [needService s, fails (n == 0 || decide (8 < n)) .badOperand] ++ needOperator s c ++
  [ fails (s.groups[g] == .armed) .state
  , fails (firstPointOwner s g != some c) .noAuthority ]

/-- R54: the number of members whose mark a rearm clears. -/
def markedMembers (s : State) (g : GroupNo) : Nat :=
  (s.points.toList.filter fun q => isMember g q && q.firstMark.isSome).length

/-- R54: REARM_GROUP. -/
def rearmGroup (c : Console) (r : Request) (s : State) : State × Reply :=
  let n := r.b3.toNat
  decided s (rearmChecks s c n) (taken (rearm (groupOf n) s) (byte2 (markedMembers s (groupOf n))))

/-- R54: REARM_GROUP, as a frame. -/
def execRearmGroup (c : Console) (r : Request) (s : State) : Result := request c r (rearmGroup c r) s

/-- R55: the number of members of a group, and how many of them are in a state other than NORMAL. -/
def memberBytes (s : State) (g : GroupNo) : List Byte :=
  let m := s.points.toList.filter (isMember g)
  byte2 m.length ++ byte2 (m.filter fun q => q.state != .normal).length

/-- R55: a group entry as READ_GROUP returns it. -/
def groupBytes (s : State) (g : GroupNo) : List Byte :=
  let first := match s.groups[g] with
    | .armed => none
    | .tripped p => some p
  byte1 (if first.isSome then 1 else 0) ++ optBytes 2 (fun p : PointNo => byte2 p) first ++
    optBytes 1 (fun p => byte1 (s.point p).state.code) first ++ memberBytes s g

/-- R55: READ_GROUP. -/
def readGroup (_c : Console) (r : Request) (s : State) : State × Reply :=
  let n := r.b3.toNat
  decided s [fails (n == 0 || decide (8 < n)) .badOperand] (taken s (groupBytes s (groupOf n)))

/-- R55: READ_GROUP, as a frame. -/
def execReadGroup (c : Console) (r : Request) (s : State) : Result := request c r (readGroup c r) s

/-! ## READ_FLOOD (R70) -/

/-- R70: the flood values a selector names. -/
def floodBytes (s : State) (n : Nat) : List Byte :=
  match n with
  | 24 => byte2 s.weights.p1
  | 25 => byte2 s.weights.p2
  | 26 => byte2 s.weights.p3
  | 27 => byte2 s.weights.p4
  | 28 => byte1 s.decayShift
  | _ =>
    let e := s.area (areaOf n)
    byte2 e.load ++ byte1 e.flood.code ++ byte2 e.tOn ++ byte2 e.tOffWritten ++ byte2 e.tOffApplied

/-- R70: READ_FLOOD. -/
def readFlood (_c : Console) (r : Request) (s : State) : State × Reply :=
  let n := r.b3.toNat
  decided s [fails (decide (28 < n)) .badOperand] (taken s (floodBytes s n))

/-- R70: READ_FLOOD, as a frame. -/
def execReadFlood (c : Console) (r : Request) (s : State) : Result := request c r (readFlood c r) s

end Sys2Proof.Machine
end

