-- ==== Sys2Proof/Machine/Timers.lean ====
section
/-! DEFINITION. The events of the part's own timers (R176 and the chapters' timers): the slot boundary, the seconds
tick, the lapse of a record, the chirp's end, the shelf's expiries, absence, escalation, the board frame, and the
millisecond tick that brings them about.

A timer's event is a command of its own, and the sender puts the events of one tick in the order they are taken. An
event that is not due leaves the state as it was. What is still due when the next millisecond tick arrives is taken
first, in one fixed order, so that no deadline is passed over (DESIGN CHOICE, notes/assumptions/6.md and 7.md). -/

namespace Sys2Proof.Machine

/-! ## The slot generator and the chirp (R127, R128) -/

/-- R127: the slot number steps where the count within the slot has returned to 0. -/
def slotBoundary (s : State) : State :=
  if s.slots.boundaryDue then
    { s with slots := { s.slots with slot := (s.slots.slot + 1) % 16, boundaryDue := false } }
  else s

/-- R127: SLOT_BOUNDARY. -/
def execSlotBoundary (s : State) : Result := event (slotBoundary s)

/-- R128: a console's chirp deadline has been reached. -/
def chirpDue (s : State) (c : Console) : Bool := (s.horn c).chirp.any fun d => reached s.time.runClock d

/-- R128: a console's chirp timer stops at its deadline. -/
def chirpEnd (c : Console) (s : State) : State :=
  if chirpDue s c then s.setHorn c { s.horn c with chirp := none } else s

/-- R128: CHIRP_END. -/
def execChirpEnd (c : Console) (s : State) : Result := event (chirpEnd c s)

/-! ## The seconds tick (R75, R76, R89, R159) -/

/-- R75: the amount a decay step takes away: the load divided by 2 to the power of the shift, rounded up. -/
def decayAmount (load shift : Nat) : Nat := (load + 2 ^ shift - 1) / 2 ^ shift

/-- R75: a load after its decay step. -/
def decayed (load shift : Nat) : Nat := load - decayAmount load shift

/-- R75, R76: the decay step of one area, and the end of its flood. -/
def decayArea (s : State) (a : AreaNo) : State :=
  let e := s.area a
  let load := decayed e.load s.decayShift
  let s1 := s.setArea a { e with load := load }
  if e.flood = .flood && decide (load < e.tOffApplied) then
    let s2 := s1.setArea a { e with load := load, flood := .normal }
    let s3 := offer s2 (areaRecord s2 .floodOff .routine a a 0#6 (valueHalves load e.tOffApplied))
    judgeHold (setFlagInScope .flood s3 a) a
  else s1

/-- R75: the decay step of every area, in ascending area number. -/
def decayAll (s : State) : State := allAreas.foldl decayArea s

/-- R79, R89: a record's phase timer counts at a seconds tick. -/
def HoRecord.counting (h : HoRecord) : Bool := h.phase == .offered || (h.phase == .reviewing && !h.held)

/-- R89: the records of a list are counted one after another. A count that brings a timer to 0 is left to the HO_LAPSE
event, and with it every record after; the decay that follows the counts comes once all are made (DESIGN CHOICE,
notes/assumptions/8.md). -/
def countRecords (decayLast : Bool) : List RecordNo → State → State
  | [], s =>
    let s1 := { s with time := { s.time with rest := none } }
    if decayLast then decayAll s1 else s1
  | r :: rest, s =>
    let h := s.record r
    if h.counting then
      if h.timer ≤ 1 then { s with time := { s.time with rest := some ⟨r, decayLast⟩ } }
      else countRecords decayLast rest (s.setRecord r { h with timer := h.timer - 1 })
    else countRecords decayLast rest s

/-- R80, R89: the decay and the counts of one tick, in the order given. -/
def secondsWork (timersFirst : Bool) (s : State) : State :=
  countRecords timersFirst allFour (if timersFirst then s else decayAll s)

/-- R159: the sender's own step at the tick, unless a FILLER is to begin, which the FILLER event does. R159 and R75 give
no order of this step and the decay, whose FLOOD_OFF record the FIFO may take: it comes after what SECONDS_TICK decays
and counts, and before what HO_LAPSE does of the tick (DESIGN CHOICE, notes/assumptions/9.md). -/
def senderStep (s : State) : State := if s.time.fillerDue && !fillerBegins s then fillerStep s else s

/-- R176: the seconds tick, where it is due; decay and timers act IN_SERVICE only (R174), and the sender's step comes
last (DESIGN CHOICE, notes/assumptions/9.md). -/
def secondsTick (timersFirst : Bool) (s : State) : State :=
  if s.time.secondsDue then
    let s1 := { s with time := { s.time with secondsDue := false } }
    senderStep (if s1.inService then secondsWork timersFirst s1 else s1)
  else s

/-- R176: SECONDS_TICK. -/
def execSecondsTick (timersFirst : Bool) (s : State) : Result := event (secondsTick timersFirst s)

/-! ## The lapse of a record (R89) -/

/-- R89: the cause of a lapse. -/
def lapseCause (h : HoRecord) : HoCause := if h.phase = .offered then .offerTimeout else .reviewTimeout

/-- R89, R80, R107: the count at which the tick stands is made: a record that no longer counts keeps its timer, one
whose timer has been set afresh counts down, and one whose timer reaches 0 ends LAPSED, in the outgoing party's name
(R109). -/
def lapseRecord (s : State) (r : RecordNo) : State :=
  let h := s.record r
  if h.counting then
    let s1 := s.setRecord r { h with timer := h.timer - 1 }
    if h.timer ≤ 1 then
      (endRecord s1 r .lapsed (lapseCause h) (h.outConsole.getD 0) (h.outOperator.getD 0)).state
    else s1
  else s

/-- The records after one, in ascending number. -/
def recordsAfter (r : RecordNo) : List RecordNo := allFour.filter (r < ·)

/-- R89: the lapse of the record at which a seconds tick stands: it ends with all its records and events, and the tick
then goes on to the records after it. -/
def hoLapse (s : State) : State :=
  match s.time.rest with
  | some x => countRecords x.decayLast (recordsAfter x.record) (lapseRecord s x.record)
  | none => s

/-- R89: HO_LAPSE. -/
def execHoLapse (s : State) : Result := event (hoLapse s)

/-! ## Shelf, presence and escalation (R62, R112, R116) -/

/-- R62: EXPIRE. -/
def execExpire (s : State) : Result := event (expireDue s)

/-- R112: the lowest-numbered console whose deadline has been reached becomes ABSENT. -/
def consoleAbsent (s : State) : State :=
  match allFour.find? (absenceDue s) with
  | some c => becomeAbsent s c
  | none => s

/-- R112: CONSOLE_ABSENT. -/
def execConsoleAbsent (s : State) : Result := event (consoleAbsent s)

/-- R116: the lowest-numbered area whose escalation deadline has been reached becomes ESCALATED. -/
def escalate (s : State) : State :=
  match allAreas.find? (escalationDue s) with
  | some a => escalateArea s a
  | none => s

/-- R116: ESCALATE. -/
def execEscalate (s : State) : Result := event (escalate s)

/-! ## The board frame (R132, R133) -/

/-- R132, R133: where a frame has ended, its latch, and the start of the next frame while the board is scanned; the
blank frame's end stops the scanner. A slot boundary of the same tick is taken first, so that the frame takes the slot
in force. -/
def boardFrame (s : State) : State :=
  if s.board.frameDue then
    let s1 := latch (slotBoundary s)
    match s.board.scanner with
    | .scanning => startFrame s1
    | _ => { s1 with board := { s1.board with scanner := .stopped } }
  else s

/-- R133: BOARD_FRAME. -/
def execBoardFrame (s : State) : Result := event (boardFrame s)

/-! ## The millisecond tick (R176) -/

/-- R121: the debounced events of a desk that are due. -/
def deskEvents (s : State) (d : Console) : State :=
  deskButtonRelease d .silence (deskButtonRelease d .ack (deskTestRelease d (deskTestPress d
    (deskSilencePress d (deskAckPress d s)))))

/-- R159: the sender's step at a seconds tick, where it is still to come. -/
def fillerEvent (s : State) : State := if s.time.fillerDue then fillerStep s else s

/-- Every event of the tick past that is still due, in the model's fixed order. -/
def closeOut (s : State) : State :=
  let s1 := readyResume (fillerEvent (secondsTick false (slotBoundary s)))
  let s2 := hoLapse (hoLapse (hoLapse (hoLapse s1)))
  let s3 := expireDue (allFour.foldl (fun s c => chirpEnd c s) s2)
  let s4 := consoleAbsent (consoleAbsent (consoleAbsent (consoleAbsent s3)))
  let s5 := linkLost (allAreas.foldl (fun s _ => escalate s) s4)
  boardFrame (allFour.foldl deskEvents s5)

/-- R127: the slot generator at a millisecond tick. -/
def SlotGenerator.tick (g : SlotGenerator) : SlotGenerator :=
  if g.count = 124 then { g with count := 0, boundaryDue := true } else { g with count := g.count + 1 }

/-- R176: the time base at a millisecond tick. -/
def TimeBase.tick (t : TimeBase) : TimeBase :=
  if t.milli = 999 then
    { t with runClock := t.runClock + 1#32, milli := 0, divideCount := 0, secondsDue := true, fillerDue := true }
  else { t with runClock := t.runClock + 1#32, milli := t.milli + 1, divideCount := 0 }

/-- R176: what counts milliseconds counts one; `ready` is the printer's ready input as the tick sees it (R158). -/
def advance (ready : Bool) (s : State) : State :=
  { s with
    time := s.time.tick
    slots := s.slots.tick
    board := s.board.tick
    journal := s.journal.see ready }

/-- R176: MILLISECOND_TICK. -/
def execMillisecondTick (ready : Bool) (s : State) : Result := event (advance ready (closeOut s))

end Sys2Proof.Machine
end

