-- ==== Sys2Proof/Machine/Dispatch.lean ====
section
/-! DEFINITION. The dispatch: one arm for each command, one direct call of its meaning. -/

namespace Sys2Proof.Machine

def exec (i : Instr) (s : State) : Host.Outcome State Fault Refusal :=
  match i with
  | .nop c r => Sys2Proof.Machine.execNop c r s
  | .readMore c r => Sys2Proof.Machine.execReadMore c r s
  | .portReset c r => Sys2Proof.Machine.execPortReset c r s
  | .readFlags c r => Sys2Proof.Machine.execReadFlags c r s
  | .clearFlags c r => Sys2Proof.Machine.execClearFlags c r s
  | .setMask c r => Sys2Proof.Machine.execSetMask c r s
  | .readConditions c r => Sys2Proof.Machine.execReadConditions c r s
  | .signOn c r => Sys2Proof.Machine.execSignOn c r s
  | .signOff c r => Sys2Proof.Machine.execSignOff c r s
  | .readSignon c r => Sys2Proof.Machine.execReadSignon c r s
  | .readOperator c r => Sys2Proof.Machine.execReadOperator c r s
  | .ackPoint c r => Sys2Proof.Machine.execAckPoint c r s
  | .ackArea c r => Sys2Proof.Machine.execAckArea c r s
  | .ackAll c r => Sys2Proof.Machine.execAckAll c r s
  | .silence c r => Sys2Proof.Machine.execSilence c r s
  | .listOpen c r => Sys2Proof.Machine.execListOpen c r s
  | .listNext c r => Sys2Proof.Machine.execListNext c r s
  | .readPoint c r => Sys2Proof.Machine.execReadPoint c r s
  | .readArea c r => Sys2Proof.Machine.execReadArea c r s
  | .readHorn c r => Sys2Proof.Machine.execReadHorn c r s
  | .lampTest c r => Sys2Proof.Machine.execLampTest c r s
  | .shelve c r => Sys2Proof.Machine.execShelve c r s
  | .unshelve c r => Sys2Proof.Machine.execUnshelve c r s
  | .readShelf c r => Sys2Proof.Machine.execReadShelf c r s
  | .rearmGroup c r => Sys2Proof.Machine.execRearmGroup c r s
  | .readGroup c r => Sys2Proof.Machine.execReadGroup c r s
  | .readFlood c r => Sys2Proof.Machine.execReadFlood c r s
  | .takeover c r => Sys2Proof.Machine.execTakeover c r s
  | .hoOffer c r => Sys2Proof.Machine.execHoOffer c r s
  | .hoAccept c r => Sys2Proof.Machine.execHoAccept c r s
  | .hoDecline c r => Sys2Proof.Machine.execHoDecline c r s
  | .hoWithdraw c r => Sys2Proof.Machine.execHoWithdraw c r s
  | .hoPresent c r => Sys2Proof.Machine.execHoPresent c r s
  | .hoConfirm c r => Sys2Proof.Machine.execHoConfirm c r s
  | .hoRelease c r => Sys2Proof.Machine.execHoRelease c r s
  | .hoUnrelease c r => Sys2Proof.Machine.execHoUnrelease c r s
  | .hoTake c r => Sys2Proof.Machine.execHoTake c r s
  | .hoForceCommit c r => Sys2Proof.Machine.execHoForceCommit c r s
  | .hoForceCancel c r => Sys2Proof.Machine.execHoForceCancel c r s
  | .hoRead c r => Sys2Proof.Machine.execHoRead c r s
  | .setTime c r => Sys2Proof.Machine.execSetTime c r s
  | .journalStart c r => Sys2Proof.Machine.execJournalStart c r s
  | .journalStop c r => Sys2Proof.Machine.execJournalStop c r s
  | .journalClear c r => Sys2Proof.Machine.execJournalClear c r s
  | .journalReset c r => Sys2Proof.Machine.execJournalReset c r s
  | .readJournal c r => Sys2Proof.Machine.execReadJournal c r s
  | .readLinkCounts c r => Sys2Proof.Machine.execReadLinkCounts c r s
  | .cfgPoint c r => Sys2Proof.Machine.execCfgPoint c r s
  | .cfgArea c r => Sys2Proof.Machine.execCfgArea c r s
  | .cfgOperator c r => Sys2Proof.Machine.execCfgOperator c r s
  | .cfgTiming c r => Sys2Proof.Machine.execCfgTiming c r s
  | .cfgFlood c r => Sys2Proof.Machine.execCfgFlood c r s
  | .cfgLinks c r => Sys2Proof.Machine.execCfgLinks c r s
  | .cfgBoard c r => Sys2Proof.Machine.execCfgBoard c r s
  | .cfgClock c r => Sys2Proof.Machine.execCfgClock c r s
  | .commitConfig c r => Sys2Proof.Machine.execCommitConfig c r s
  | .restart c r => Sys2Proof.Machine.execRestart c r s
  | .reconfigure c r => Sys2Proof.Machine.execReconfigure c r s
  | .badCheck c tag => Sys2Proof.Machine.execBadCheck c tag s
  | .badCommand c code r => Sys2Proof.Machine.execBadCommand c code r s
  | .shortFrame c => Sys2Proof.Machine.execShortFrame c s
  | .powerOn => Sys2Proof.Machine.execPowerOn s
  | .millisecondTick ready => Sys2Proof.Machine.execMillisecondTick ready s
  | .secondsTick timersFirst => Sys2Proof.Machine.execSecondsTick timersFirst s
  | .slotBoundary => Sys2Proof.Machine.execSlotBoundary s
  | .chirpEnd c => Sys2Proof.Machine.execChirpEnd c s
  | .consoleAbsent => Sys2Proof.Machine.execConsoleAbsent s
  | .escalate => Sys2Proof.Machine.execEscalate s
  | .expire => Sys2Proof.Machine.execExpire s
  | .hoLapse => Sys2Proof.Machine.execHoLapse s
  | .linkLost => Sys2Proof.Machine.execLinkLost s
  | .fieldByte b => Sys2Proof.Machine.execFieldByte b s
  | .fieldLineError => Sys2Proof.Machine.execFieldLineError s
  | .fieldRecord kind pointHi pointLo state seq => Sys2Proof.Machine.execFieldRecord kind pointHi pointLo state seq s
  | .boardFrame => Sys2Proof.Machine.execBoardFrame s
  | .deskLineChange d b l => Sys2Proof.Machine.execDeskLineChange d b l s
  | .deskAckPress d => Sys2Proof.Machine.execDeskAckPress d s
  | .deskSilencePress d => Sys2Proof.Machine.execDeskSilencePress d s
  | .deskTestPress d => Sys2Proof.Machine.execDeskTestPress d s
  | .deskTestRelease d => Sys2Proof.Machine.execDeskTestRelease d s
  | .deskButtonRelease d b => Sys2Proof.Machine.execDeskButtonRelease d b s
  | .journalRecordSent ready => Sys2Proof.Machine.execJournalRecordSent ready s
  | .journalReadyResume => Sys2Proof.Machine.execJournalReadyResume s
  | .filler => Sys2Proof.Machine.execFiller s
  | .journalByteSent ready => Sys2Proof.Machine.execJournalByteSent ready s

end Sys2Proof.Machine
end

