-- ==== Sys2Proof/Safety.lean ====
section
/-! DEFINITION. What counts as a safe run, in the terms the statements use: what an event may and may not change, and
the invariants of the state. -/

namespace Sys2Proof.Machine

/-! ## Invariants -/

/-- R155: the FIFO holds at most 256 records, of which at most 224 are routine. -/
def Journal.withinBudget (j : Journal) : Prop :=
  j.fifo.length ≤ 256 ∧ (j.fifo.filter fun r => r.cls == .routine).length ≤ 224

/-- R156: the drop counters hold 0 to 65535. -/
def Journal.countersInRange (j : Journal) : Prop := j.dropRoutine ≤ 65535 ∧ j.dropAccountable ≤ 65535

/-- R149: the link counters hold 0 to 65535. -/
def LinkCounts.inRange (k : LinkCounts) : Prop :=
  k.framing ≤ 65535 ∧ k.check ≤ 65535 ∧ k.gap ≤ 65535 ∧ k.unknown ≤ 65535

/-- R67: every load is within 0 to 32767. -/
def State.loadsInRange (s : State) : Prop := ∀ a, (s.area a).load ≤ 32767

/-- R127, R132, R176: the slot number, the count within the slot, the milliseconds within the board frame, and the count
of milliseconds within the second. -/
def State.countsInRange (s : State) : Prop :=
  s.slots.slot < 16 ∧ s.slots.count < 125 ∧ s.board.count < 35 ∧ s.time.milli < 1000

/-- R132: the drivers nearest the part hold the words that the line periods of this frame have sent from line 3 on, tile
by tile, and a frame that has ended has sent all 32. -/
def Board.chainSound (b : Board) : Prop :=
  b.scanner ≠ .stopped →
    let periods := if b.frameDue then 6 else min 6 (b.count / 5)
    ∀ near tile : Fin 32, near.val < 8 * (periods - 2) → tile.val = 8 * (6 - periods) + near.val →
      b.chain[near] = b.words[tile]

/-- R131, R132: the board's outputs: while a frame is under way, in line periods 0 and 1 the data output sends 32 clear
bits; in each of periods 2 to 5 it sends the words of a line, from line 3 to line 0 and from the line's highest tile
down, each word's bits in the order red, amber, white, blue; in period 6 it sends none and the latch output is pulsed. -/
def Board.outputsAgree (b : Board) : Prop :=
  let period := b.count / 5
  let word (n : Nat) : List Bool :=
    let w := b.words.toList.getD n .blank
    [w.red, w.amber, w.white, w.blue]
  if b.scanner = .stopped ∨ b.frameDue = true then b.data = [] ∧ b.latch = false
  else
    (period < 2 → b.data = List.replicate 32 false ∧ b.latch = false) ∧
    (2 ≤ period → period < 6 → b.latch = false ∧
      b.data = [7, 6, 5, 4, 3, 2, 1, 0].flatMap fun k => word (8 * (5 - period) + k)) ∧
    (6 ≤ period → b.data = [] ∧ b.latch = true)

/-- R127, R128: a demand priority calls for sound: priority 1 always, priority 2 in slots 0 and 1 modulo 4, priority 3 in
slots 0 to 3, priority 4 while the chirp timer runs. -/
def Sounds (demand : Option Priority) (slot : Nat) (chirp : Option Word32) : Prop :=
  match demand with
  | some .p1 => True
  | some .p2 => slot % 4 < 2
  | some .p3 => slot < 4
  | some .p4 => chirp ≠ none
  | none => False

/-- R127, R170, R119, R132: every output pin stands as the state asks: each horn by its console's demand and the slot; each
interrupt line by the flags set and open at its port; the common alarm line while an ESCALATED area is owned by console
0, or an area is ESCALATED and console 0 is ABSENT. -/
def State.pinsAgree (s : State) : Prop :=
  (∀ c, (s.horn c).out = true ↔ Sounds (demandPriority s c) s.slots.slot (s.horn c).chirp) ∧
  (∀ c, (s.port c).irq = true ↔ ∃ k, (s.port c).flags.getLsbD k = true ∧ (s.port c).mask.getLsbD k = true) ∧
  (s.commonAlarm = true ↔ ∃ (a : AreaNo) (t : Word32),
    (s.area a).attendance = .escalated t ∧ ((s.area a).owner = 0 ∨ s.presentAt 0 = false)) ∧
  s.board.outputsAgree

/-- R56: the shelf holds at most 32 entries, one for each point that is SHELVED and none for any other. -/
def State.shelfSound (s : State) : Prop :=
  s.shelf.length ≤ 32 ∧ (s.shelf.map (·.point)).Nodup ∧
    ∀ p, (s.point p).state = .shelved ↔ ∃ e ∈ s.shelf, e.point = p

/-- R7: every area's seven counts are the numbers of its configured points. -/
def State.countsExact (s : State) : Prop :=
  ∀ a,
    let number (f : Point → Bool) : Nat := (s.points.toList.filter fun q => q.configured && q.area == a && f q).length
    (∀ pr, (s.area a).unack.get pr =
      number fun q => q.priority == pr && (q.state == .raised || q.state == .returned)) ∧
    (s.area a).standing = number (fun q => q.state == .standing) ∧
    (s.area a).shelved = number (fun q => q.state == .shelved) ∧
    (s.area a).notGood = number fun q => q.quality != .good

/-- R94: in OFFERED both item sets are empty; in REVIEWING the confirmed items are among the presented items, and item
0 is presented. -/
def State.checklistsSound (s : State) : Prop :=
  ∀ n,
    ((s.record n).phase = .offered → (s.record n).presented = 0#16 ∧ (s.record n).confirmed = 0#16) ∧
    ((s.record n).phase = .reviewing →
      (s.record n).confirmed &&& ~~~(s.record n).presented = 0#16 ∧ (s.record n).presented.getLsbD 0 = true)

/-- R3, R83, R88, R102, R104: an area names a record exactly when that record is live and its area set holds the
area. -/
def State.recordsSound (s : State) : Prop :=
  ∀ a n, (s.area a).record = some n ↔ (s.record n).phase ≠ .free ∧ (s.record n).areas.getLsbD a = true

/-- The journal can take some number of records of either class at once, and nothing waits on point 510: no loss is
pending, and the routine limit leaves the room (R155). -/
def State.calm (s : State) (n : Nat) : Prop :=
  s.journal.lossPending = false ∧ s.journal.lossEvents = [] ∧ s.journal.fifo.length + n ≤ 224

/-! ## Who may ask -/

/-- R10: IN_SERVICE with an OPERATOR or a SUPERVISOR signed on at a console. -/
def State.operatorReady (s : State) (c : Console) : Prop :=
  s.mode = .inService ∧ s.nobodyAt c = false ∧ s.traineeAt c = false

/-- R10: IN_SERVICE with a SUPERVISOR signed on at console 0. -/
def State.supervisorReady (s : State) : Prop := s.mode = .inService ∧ s.supervisorAt 0 = true

/-- What a taken request of a console leaves: the state its effects gave, with status OK, the tag and bytes 1 to 5 of
the result record as the pending response, the result record in the port (R167, R168), and every output following. -/
def answeredOk (c : Console) (r : Request) (record : List Byte) (s : State) : State :=
  settle (s.setPort c { s.port c with response := responseOf .ok r.tag record, result := record })

/-! ## What a request is refused for -/

/-- One test of a request: the condition on which the request fails it, and the status and the result record with which
it is then refused (R167, R168). -/
structure RequestTest where
  failsWhen : Prop
  status : Status
  record : List Byte := []

/-- R167, R174: the test of a command taken IN_SERVICE only. -/
def serviceTest (s : State) : RequestTest := { failsWhen := s.mode = .configuring, status := .wrongMode }

/-- R10: the tests of a request that an OPERATOR or a SUPERVISOR signed on at its console makes. -/
def operatorTests (s : State) (c : Console) : List RequestTest :=
  [{ failsWhen := s.operatorAt c = none, status := .notSignedOn },
    { failsWhen := ∃ op, s.operatorAt c = some op ∧ op.role = .trainee, status := .role }]

/-- R10: the tests of a request that a SUPERVISOR signed on at console 0 makes. -/
def supervisorTests (s : State) (c : Console) : List RequestTest :=
  [{ failsWhen := c ≠ 0, status := .noAuthority },
    { failsWhen := s.operatorAt c = none, status := .notSignedOn },
    { failsWhen := ∀ op, s.operatorAt c = some op → op.role ≠ .supervisor, status := .role }]

/-- R174: the tests of a configuration write, with those of its operands. -/
def writeTests (s : State) (c : Console) (operands : List RequestTest) : List RequestTest :=
  { failsWhen := s.mode = .inService, status := .wrongMode } ::
    { failsWhen := c ≠ 0, status := .noAuthority } :: operands

/-- R173: the test of an operand's range. -/
def rangeTest (out : Prop) : RequestTest := { failsWhen := out, status := .badOperand }

/-- R5: an OPERATOR or a SUPERVISOR who holds the required class of every area of a set is signed on at a console. -/
def QualifiedFor (s : State) (c : Console) (set : AreaSet) : Prop :=
  ∀ a : AreaNo, set.getLsbD a = true →
    ∃ op, s.operatorAt c = some op ∧ op.role ≠ .trainee ∧ op.classes.getLsbD (s.area a).reqClass = true

/-- R16, R36 to R38: the tests of the acknowledgement requests. -/
def ackTests (s : State) (c : Console) (code : Byte) (r : Request) : List RequestTest :=
  let n := num16 r.b3 r.b4
  let q := s.point (pointOf n)
  let override := r.b5.getLsbD 0 = true
  serviceTest s :: operatorTests s c ++
  match code.toNat with
  | 0x20 =>
    [{ failsWhen := override ∧ c ≠ 0, status := .noAuthority },
      { failsWhen := override ∧ ∀ op, s.operatorAt c = some op → op.role ≠ .supervisor, status := .role },
      rangeTest (511 < n),
      rangeTest (q.configured = false),
      { failsWhen := ¬ override ∧ ackStanding s c q.area = .none, status := .noAuthority },
      { failsWhen := q.state ≠ .raised ∧ q.state ≠ .returned, status := .state },
      { failsWhen := ¬ override ∧ ackStanding s c q.area = .party ∧ (s.area q.area).jointAck = .bothP1 ∧
          q.priority = .p1 ∧ c ∈ q.ackSet
        status := .state }]
  | 0x21 =>
    [rangeTest (23 < r.b3.toNat),
      { failsWhen := ackStanding s c (areaOf r.b3.toNat) = .none, status := .noAuthority }]
  | _ => []

/-- R12, R22: the tests of SIGN_ON and TAKEOVER. -/
def deskTests (s : State) (c : Console) (code : Byte) (r : Request) : List RequestTest :=
  let n := num16 r.b3 r.b4
  let holds (k : SlotNo) (op : Operator) : Prop := s.roster[k] = some op ∧ op.number = n
  let set := areaSet r.b3 r.b4 r.b5
  match code.toNat with
  | 0x10 =>
    [serviceTest s,
      rangeTest (n = 0 ∨ 9999 < n),
      { failsWhen := ∀ k op, ¬ holds k op, status := .unknownOperator },
      { failsWhen := ∃ k op d, holds k op ∧ (∀ j o, holds j o → k ≤ j) ∧ op.console = some d ∧ d ≠ c
        status := .elsewhere },
      { failsWhen := (s.desk c).signedOn ≠ none, status := .occupied }]
  | _ =>
    serviceTest s :: supervisorTests s c ++
    [rangeTest (set = 0#24),
      { failsWhen := ∃ a : AreaNo, set.getLsbD a = true ∧ (s.area a).attendance = .attended, status := .state },
      { failsWhen := ∃ a : AreaNo, set.getLsbD a = true ∧ (s.area a).record ≠ none, status := .inHandover }]

/-- R54, R58, R61: the tests of SHELVE, UNSHELVE and REARM_GROUP. -/
def shelfTests (s : State) (c : Console) (code : Byte) (r : Request) : List RequestTest :=
  let n := num16 r.b3 r.b4
  let q := s.point (pointOf n)
  let shelved := ∃ e ∈ s.shelf, e.point = pointOf n
  let pointTests := [rangeTest (511 < n ∨ q.configured = false)]
  let ownerTest : RequestTest := { failsWhen := (s.area q.area).owner ≠ c, status := .noAuthority }
  match code.toNat with
  | 0x30 =>
    serviceTest s :: operatorTests s c ++ pointTests ++
    [rangeTest (num16 r.b5 r.b6 = 0),
      ownerTest,
      { failsWhen := (s.area q.area).record ≠ none, status := .inHandover },
      { failsWhen := q.shelvable = false, status := .notShelvable },
      { failsWhen := 32 ≤ s.shelf.length ∧ ¬ shelved, status := .full }]
  | 0x31 =>
    serviceTest s :: operatorTests s c ++ pointTests ++ [ownerTest, { failsWhen := ¬ shelved, status := .state }]
  | _ =>
    let group := s.groups[groupOf r.b3.toNat]
    serviceTest s :: rangeTest (r.b3.toNat = 0 ∨ 8 < r.b3.toNat) :: operatorTests s c ++
    [{ failsWhen := group = .armed, status := .state },
      { failsWhen := ∀ p, group = .tripped p → (s.area (s.point p).area).owner ≠ c, status := .noAuthority }]

/-- R100: the gate of a record's areas is clear. -/
def GateClear (s : State) (set : AreaSet) : Prop :=
  ∀ a : AreaNo, set.getLsbD a = true →
    (1 ≤ (s.area a).gate.val → (s.area a).unack.p1 = 0) ∧ (2 ≤ (s.area a).gate.val → (s.area a).unack.p2 = 0)

/-- R86, R87, R90, R92, R93, R95, R96, R99, R101, R105: the tests of the handover requests. HO_PRESENT and HO_CONFIRM
carry the record in two bits of a packed byte (R173), so that their range test cannot fail. The order of HO_OFFER's
tests is R87's (notes/assumptions/32.md). -/
def handoverTests (s : State) (c : Console) (code : Byte) (r : Request) : List RequestTest :=
  let packed := code.toNat = 0x44 ∨ code.toNat = 0x45
  let n := if packed then r.b3.toNat % 4 else r.b3.toNat
  let h := s.record (recordOf n)
  let console (rest : List RequestTest) : List RequestTest :=
    serviceTest s :: rangeTest (3 < n) :: operatorTests s c ++ rest
  let outgoing : RequestTest := { failsWhen := h.outConsole ≠ some c, status := .noAuthority }
  let incoming : RequestTest := { failsWhen := h.inConsole ≠ some c, status := .noAuthority }
  let phase (ph : Phase) : RequestTest := { failsWhen := h.phase ≠ ph, status := .state }
  let live (m : RecordNo) : Prop := (s.record m).phase ≠ .free
  match code.toNat with
  | 0x40 =>
    let set := areaSet r.b4 r.b5 r.b6
    let asked := consoleOf r.b3.toNat
    serviceTest s :: operatorTests s c ++
    [rangeTest (3 < r.b3.toNat ∨ asked = c ∨ set = 0#24),
      { failsWhen := ∃ m, live m ∧ (s.record m).inConsole = some asked, status := .state },
      { failsWhen := ∃ a : AreaNo, set.getLsbD a = true ∧ (s.area a).owner ≠ c, status := .noAuthority },
      { failsWhen := ∃ a : AreaNo, set.getLsbD a = true ∧ (s.area a).record ≠ none, status := .inHandover },
      { failsWhen := ∀ m, live m, status := .full },
      { failsWhen := ∃ m, live m ∧ (s.record m).outConsole = some c, status := .state }]
  | 0x41 => console [incoming, phase .offered, { failsWhen := ¬ QualifiedFor s c h.areas, status := .notQualified }]
  | 0x42 => console [incoming, phase .offered]
  | 0x43 => console [outgoing, { failsWhen := h.phase = .free, status := .state }]
  | 0x44 => console [outgoing, phase .reviewing]
  | 0x45 => console [incoming, phase .reviewing, rangeTest (itemSet r.b4 r.b5 &&& ~~~h.presented ≠ 0#16)]
  | 0x46 => console [outgoing, phase .reviewing]
  | 0x47 => console [outgoing, phase .reviewing]
  | 0x48 =>
    console [incoming, phase .reviewing,
      { failsWhen := h.held = true, status := .held },
      { failsWhen := h.release = false, status := .notReady, record := [1#8] },
      { failsWhen := h.confirmed ≠ h.presented, status := .notReady, record := [2#8] },
      { failsWhen := ¬ GateClear s h.areas, status := .notReady, record := [3#8] },
      { failsWhen := h.inOperator ≠ some (s.operatorNumber c), status := .notSignedOn }]
  | _ =>
    let commit := r.b4.toNat = 0
    serviceTest s :: rangeTest (3 < n ∨ 1 < r.b4.toNat) :: supervisorTests s c ++
    [{ failsWhen := (commit ∧ h.phase ≠ .reviewing) ∨ (¬ commit ∧ h.phase = .free), status := .state },
      { failsWhen := commit ∧ h.inOperator ≠ (s.operatorAt (h.inConsole.getD 0)).map (·.number)
        status := .notSignedOn },
      { failsWhen := commit ∧ ¬ QualifiedFor s (h.inConsole.getD 0) h.areas, status := .notQualified }]

/-- R1, R9, R24, R68, R139, R174 to R176: the tests of the configuration writes' operands. -/
def operandTests (s : State) (code : Byte) (r : Request) : List RequestTest :=
  let n := num16 r.b3 r.b4
  let sel := r.b3.toNat
  let v := num16 r.b4 r.b5
  let w := num16 r.b6 r.b7
  let codesPast (b1 b2 b3 : Byte) : Prop := ∃ b ∈ [b1, b2, b3], 12 < b.toNat / 16 ∨ 12 < b.toNat % 16
  match code.toNat with
  | 0x60 =>
    [rangeTest (511 < n),
      rangeTest (23 < r.b5.toNat % 32 ∨ r.b6.toNat / 16 = 0 ∨ 4 < r.b6.toNat / 16 ∨ 8 < r.b6.toNat % 16)]
  | 0x61 => [rangeTest (23 < sel ∨ 6 < r.b4.toNat ∨ 1 < r.b5.toNat ∨ 2 < r.b6.toNat)]
  | 0x62 =>
    [rangeTest (63 < sel),
      rangeTest (9999 < v),
      rangeTest (2 < r.b6.toNat),
      rangeTest (r.b7.getLsbD 7 = true ∧ r.b6.toNat ≠ 2),
      { failsWhen := v ≠ 0 ∧ ∃ (k : SlotNo) (op : Operator), k ≠ slotOf sel ∧ s.roster[k] = some op ∧ op.number = v
        status := .duplicate }]
  | 0x63 =>
    [rangeTest (¬ ((sel = 0 ∧ 30 ≤ v ∧ v ≤ 1800) ∨ (sel = 1 ∧ 60 ≤ v ∧ v ≤ 7200) ∨ (sel = 2 ∧ 1 ≤ v ∧ v ≤ 20) ∨
      (sel = 3 ∧ 10 ≤ v ∧ v ≤ 600)))]
  | 0x64 =>
    [rangeTest (28 < sel),
      rangeTest ((sel ≤ 23 ∧ (v = 0 ∨ 32767 < v ∨ 32767 < w)) ∨ (sel = 28 ∧ (v = 0 ∨ 10 < v)))]
  | 0x65 => [rangeTest (¬ ((sel = 0 ∧ v ≤ 3) ∨ (sel = 1 ∧ 1 ≤ v ∧ v ≤ 10) ∨ (sel = 2 ∧ v ≤ 4)))]
  | 0x66 =>
    [rangeTest (¬ ((sel = 0 ∧ r.b4.toNat ≤ 1 ∧ r.b5.toNat ∈ [1, 2, 4, 8] ∧ 1 ≤ r.b6.toNat ∧ r.b6.toNat ≤ 8) ∨
      (sel = 1 ∧ 1 ≤ r.b4.toNat ∧ r.b4.toNat ≤ 12 ∧ ¬ codesPast r.b5 r.b6 r.b7) ∨
      (sel = 2 ∧ ¬ codesPast r.b4 r.b5 r.b6)))]
  | 0x67 => [rangeTest (n = 0)]
  | _ => []

/-- R167, 10.3: every test of a command code's request, in the order in which its rule lists them, at the state that the
arrival of its frame leaves. A code that the command table does not list is BAD_COMMAND. -/
def requestTests (s : State) (c : Console) (code : Byte) (r : Request) : List RequestTest :=
  let n := num16 r.b3 r.b4
  match code.toNat with
  | 0x00 => []
  | 0x01 => [rangeTest (3 < r.b3.toNat)]
  | 0x02 => []
  | 0x03 => []
  | 0x04 => [serviceTest s]
  | 0x05 => [serviceTest s]
  | 0x06 => []
  | 0x10 => deskTests s c code r
  | 0x11 => []
  | 0x12 => [rangeTest (3 < r.b3.toNat)]
  | 0x13 => [rangeTest (63 < r.b3.toNat)]
  | 0x20 => ackTests s c code r
  | 0x21 => ackTests s c code r
  | 0x22 => ackTests s c code r
  | 0x23 => [serviceTest s]
  | 0x24 => [serviceTest s, rangeTest (2 < r.b3.toNat ∨ (r.b3.toNat = 2 ∧ 23 < r.b4.toNat))]
  | 0x25 => [serviceTest s, { failsWhen := (s.port c).cursor = .closed, status := .state }]
  | 0x26 => [rangeTest (511 < n ∨ 4 < r.b5.toNat)]
  | 0x27 => [rangeTest (23 < r.b3.toNat ∨ 3 < r.b4.toNat)]
  | 0x28 => [rangeTest (3 < r.b3.toNat)]
  | 0x29 => [serviceTest s]
  | 0x30 => shelfTests s c code r
  | 0x31 => shelfTests s c code r
  | 0x32 => [rangeTest (31 < r.b3.toNat)]
  | 0x33 => shelfTests s c code r
  | 0x34 => [rangeTest (r.b3.toNat = 0 ∨ 8 < r.b3.toNat)]
  | 0x35 => [rangeTest (28 < r.b3.toNat)]
  | 0x36 => deskTests s c code r
  | 0x40 => handoverTests s c code r
  | 0x41 => handoverTests s c code r
  | 0x42 => handoverTests s c code r
  | 0x43 => handoverTests s c code r
  | 0x44 => handoverTests s c code r
  | 0x45 => handoverTests s c code r
  | 0x46 => handoverTests s c code r
  | 0x47 => handoverTests s c code r
  | 0x48 => handoverTests s c code r
  | 0x49 => handoverTests s c code r
  | 0x4A => [rangeTest (3 < r.b3.toNat ∨ 3 < r.b4.toNat)]
  | 0x50 => serviceTest s :: supervisorTests s c
  | 0x51 => [serviceTest s, { failsWhen := c ≠ 0, status := .noAuthority }]
  | 0x52 => serviceTest s :: supervisorTests s c
  | 0x53 => serviceTest s :: supervisorTests s c
  | 0x54 => serviceTest s :: supervisorTests s c
  | 0x55 => [rangeTest (1 < r.b3.toNat)]
  | 0x56 => [rangeTest (1 < r.b3.toNat)]
  | 0x60 => writeTests s c (operandTests s code r)
  | 0x61 => writeTests s c (operandTests s code r)
  | 0x62 => writeTests s c (operandTests s code r)
  | 0x63 => writeTests s c (operandTests s code r)
  | 0x64 => writeTests s c (operandTests s code r)
  | 0x65 => writeTests s c (operandTests s code r)
  | 0x66 => writeTests s c (operandTests s code r)
  | 0x67 => writeTests s c (operandTests s code r)
  | 0x68 => writeTests s c (operandTests s code r)
  | 0x69 => serviceTest s :: supervisorTests s c
  | 0x6A => serviceTest s :: supervisorTests s c
  | _ => [{ failsWhen := True, status := .badCommand }]

/-! ## What an event leaves alone -/

/-- The configuration fields of a point (2.1): a point with its live fields at one fixed value. -/
def Point.cfg (q : Point) : Point :=
  { q with
    input := .normal, quality := .stale, state := .normal, ackSet := [], serial := none, raiseTime := none
    ack := none, firstMark := none, quiet := false }

/-- The configuration fields of an area (1.1, 4.1): an area with its live fields at one fixed value. -/
def Area.cfg (e : Area) : Area :=
  { e with
    owner := 0, attendance := .attended, record := none, unack := ⟨0, 0, 0, 0⟩, standing := 0, shelved := 0
    notGood := 0, load := 0, flood := .normal }

/-- The fields of a handover record that a raise in its areas and the hold do not write. -/
def HoRecord.core (h : HoRecord) : HoRecord := { h with confirmed := 0#16, held := false }

/-- A port that an event of another block has reached: only its flags may have changed, and none of them cleared
(R169). -/
structure Port.Grown (p q : Port) : Prop where
  response : q.response = p.response
  result : q.result = p.result
  mask : q.mask = p.mask
  cursor : q.cursor = p.cursor
  irq : q.irq = p.irq
  flags : p.flags &&& q.flags = p.flags

/-- What every effect inside an event leaves alone, whatever it raises, returns, acknowledges, journals or ends: the
queue, the device state, the clocks and settings, the board, the desk lines and the receiver; the configuration of
points and areas; every port but for flags that are set; the records in the FIFO, which new ones only follow; the unit in
transmission, where there is one, and its bytes; and the ranges of the loads and drop counters and the FIFO's budget, where they hold. -/
structure Base (s t : State) : Prop where
  pending : t.pending = s.pending
  mode : t.mode = s.mode
  time : t.time = s.time
  timing : t.timing = s.timing
  weights : t.weights = s.weights
  decayShift : t.decayShift = s.decayShift
  lines : t.lines = s.lines
  slots : t.slots = s.slots
  board : t.board = s.board
  lampTest : t.lampTest = s.lampTest
  pattern : t.pattern = s.pattern
  receiver : t.receiver = s.receiver
  commonAlarm : t.commonAlarm = s.commonAlarm
  points : ∀ p, (t.point p).cfg = (s.point p).cfg
  areas : ∀ a, (t.area a).cfg = (s.area a).cfg
  ports : ∀ c, (s.port c).Grown (t.port c)
  hornOut : ∀ c, (t.horn c).out = (s.horn c).out
  stream : t.journal.stream = s.journal.stream
  ready : t.journal.ready = s.journal.ready
  readySeen : t.journal.readySeen = s.journal.readySeen
  resumeDue : t.journal.resumeDue = s.journal.resumeDue
  sending : s.journal.unit ≠ none → t.journal.unit = s.journal.unit ∧ t.journal.lineByte = s.journal.lineByte ∧
    t.journal.bytesSent = s.journal.bytesSent
  rate : t.journal.rate = s.journal.rate
  fifo : s.journal.fifo <+: t.journal.fifo
  loads : s.loadsInRange → t.loadsInRange
  drops : s.journal.countersInRange → t.journal.countersInRange
  budget : s.journal.withinBudget → t.journal.withinBudget

/-- What the sequencer, the journal and the presence monitor leave alone besides: who is signed on and present, the
shelf, the owner and the handover record of every area, and every record but for its confirmed items and its hold. -/
structure Kept (s t : State) : Prop extends Base s t where
  roster : t.roster = s.roster
  desks : t.desks = s.desks
  shelf : t.shelf = s.shelf
  owner : ∀ a, (t.area a).owner = (s.area a).owner
  record : ∀ a, (t.area a).record = (s.area a).record
  records : ∀ r, (t.record r).core = (s.record r).core

/-- R155 to R157: how many events point 510 may still be given before the records of its own events find no place: those
that wait, and those that the free places of the FIFO and a loss not yet pending can bring about. -/
def Journal.eventsLeft (j : Journal) : Nat :=
  j.lossEvents.length + (256 - j.fifo.length) + (!j.lossPending).toNat

/-- What the sequencer and the journal leave alone besides: attendance and the horn scopes. Point 510 is left no more
events than before. -/
structure Sequenced (s t : State) : Prop extends Kept s t where
  attendance : ∀ a, (t.area a).attendance = (s.area a).attendance
  scope : ∀ c, (t.horn c).scope = (s.horn c).scope
  eventsLeft : t.journal.eventsLeft ≤ s.journal.eventsLeft

end Sys2Proof.Machine
end

