-- ==== Sys2Proof/Certificates/Slice0/Obligations.lean ====
section
/-! DEFINITION. The statements for the provers. A statement about a console request speaks of the state that the arrival
of its frame leaves (`frameArrives`, R111 and R113), on which the request is handled, and gives the whole next state:
what is not written in it is unchanged. -/

open Sys2Proof Sys2Proof.Machine

/-! ## The machine -/

/-- A step takes the command at the front of the queue and is that command's effect on the rest; on an empty queue the
part idles (DESIGN CHOICE, notes/assumptions/1.md). -/
def Obligations.StepRunsTheFrontCommand : Prop :=
  (∀ (c : Instr) (rest : List Instr) (s : State), step { s with pending := c :: rest } = exec c { s with pending := rest }) ∧
  (∀ s : State, s.pending = [] → step s = .next s)

/-- R25, R67, R84, R110, R141, R153, R165, R166, R170, R180: what reset leaves. -/
def Obligations.ResetHoldsThePowerOnValues : Prop :=
  State.reset.mode = .configuring ∧ State.reset.time.runClock = 0#32 ∧ State.reset.time.offset = 0#32 ∧
  State.reset.time.refDivide = 4096 ∧
  (∀ p, (State.reset.point p).configured = false ∧ (State.reset.point p).state = .normal ∧
    (State.reset.point p).quality = .stale ∧ (State.reset.point p).serial = none) ∧
  (∀ a, (State.reset.area a).owner = 0 ∧ (State.reset.area a).load = 0 ∧ (State.reset.area a).flood = .normal ∧
    (State.reset.area a).attendance = .unattended 0#32 ∧ (State.reset.area a).record = none ∧
    (State.reset.area a).tOn = 2000 ∧ (State.reset.area a).tOffWritten = 800) ∧
  (∀ r, (State.reset.record r).phase = .free ∧ (State.reset.record r).lastOutcome = none) ∧
  (∀ c, State.reset.presentAt c = true ∧ (State.reset.desk c).signedOn = none ∧
    (State.reset.port c).response.status = .idle ∧ (State.reset.port c).mask = 0#9 ∧
    (State.reset.port c).flags = 0#9 ∧ (State.reset.horn c).out = false) ∧
  State.reset.journal.fifo = [] ∧ State.reset.journal.stream = .stopped ∧ State.reset.receiver.expected = none ∧
  State.reset.shelf = [] ∧ State.reset.commonAlarm = false

/-- 10.3, 10.4, R167: the eight bytes of a well-formed command's frame are read back as that command: no operand byte
of any console command is dropped. -/
def Obligations.FramesReadBack : Prop :=
  ∀ (i : Instr) (c : Console) (l : List Byte),
    i.wellFormed = true → encodeFrame i = some (c, l) → decodeFrame c l 0 = i

/-- R166, R167: eight bytes whose XOR is 0 are the frame of the command they are read as, a longer run is read by its
first eight, and eight bytes whose XOR is not 0 have a bad check; fewer, or a frame withdrawn part-way through a byte,
are cut short. Against a frame's bytes the port shifts out the eight bytes of its pending response, whose XOR is 0, and
0x00 from then on; its data output is high-impedance with chip select withdrawn and while reset is asserted (R180). -/
def Obligations.EveryFrameIsRead : Prop :=
  ∀ (c : Console) (b1 b2 b3 b4 b5 b6 b7 b8 : Byte) (more : List Byte) (s : State),
    let l := [b1, b2, b3, b4, b5, b6, b7, b8]
    let x := (s.port c).response
    let out (k : Nat) : Option Byte := s.dataOut c false (some k)
    decodeFrame c (l ++ more) 0 = decodeFrame c l 0 ∧
    (byteXor l = 0#8 → encodeFrame (decodeFrame c l 0) = some (c, l) ∧ (decodeFrame c l 0).wellFormed = true) ∧
    (byteXor l ≠ 0#8 → decodeFrame c l 0 = .badCheck c b2) ∧
    (∀ n bits, n < 8 → decodeFrame c (l.take n) bits = .shortFrame c) ∧
    (∀ bits, bits ≠ 0 → decodeFrame c (l ++ more) bits = .shortFrame c) ∧
    (∃ check, (List.range 8).map out = [some x.status.code, some x.tag, some x.r1, some x.r2, some x.r3, some x.r4,
        some x.r5, some check] ∧ byteXor [x.status.code, x.tag, x.r1, x.r2, x.r3, x.r4, x.r5, check] = 0#8) ∧
    (∀ k, 8 ≤ k → out k = some 0#8) ∧
    s.dataOut c false none = none ∧ ∀ byte, s.dataOut c true byte = none

/-! ## The console ports -/

/-- R111, R113: what the arrival of a good frame does before its command is handled. A PRESENT console's last-heard time
and, IN_SERVICE, its deadline are set, and nothing else; an ABSENT one becomes PRESENT, with the PRESENT record, PRESENCE
at all four ports, the re-evaluation of its areas, and point 509 NORMAL where no console is left ABSENT. R166, R167,
R168, R172: NOP, READ_MORE, PORT_RESET, and the frames that carry no command. NOP's own response becomes pending;
READ_MORE returns five bytes of the result record, which both leave in place; PORT_RESET gives its port the IDLE
response, empties its record, clears its flags and closes its cursor, and keeps its mask. A frame with a bad check is
answered BAD_CHECK with its byte 2 and is not acted on: presence and the result record stand; a good frame with an
unlisted code is answered BAD_COMMAND with an empty record, after its arrival; a frame cut short changes nothing. -/
def Obligations.PortsAnswerTheirFrames : Prop :=
  ∀ (c : Console) (tag code : Byte) (r : Request) (s : State),
    let s1 := frameArrives c s
    let p := s1.port c
    let part := r.b3.toNat
    let now := s.time.runClock
    let heard : State := { s with desks := s.desks.set c ⟨.present (if s.mode = .inService
      then some (now + BitVec.ofNat 32 (s.timing.absenceHalfSeconds * 500)) else none), now, (s.desk c).signedOn⟩ }
    let returned (since : Word32) : State :=
      let s3 := setFlagAt .presence [0, 1, 2, 3] (offer heard ⟨.present, .accountable, now + s.time.offset,
        BitVec.ofNat 16 c, c, 0#6, BitVec.ofNat 16 (s.operatorNumber c), since⟩)
      reevaluateAll s3 ((List.finRange 24).filter fun a => (s3.area a).owner == c || s3.incomingIn c a)
    (∀ d, (s.desk c).presence = .present d → s1 = heard) ∧
    (∀ since, (s.desk c).presence = .absent since →
      ((∀ d, d ≠ c → s.presentAt d = true) → s1 = systemPoint (returned since) 509 .normal) ∧
      ((∃ d, d ≠ c ∧ s.presentAt d = false) → s1 = returned since)) ∧
    exec (.nop c r) s = .next (settle (s1.setPort c { p with response := ⟨.ok, r.tag, 0#8, 0#8, 0#8, 0#8, 0#8⟩ })) ∧
    exec (.readMore c r) s = .next (settle (s1.setPort c { p with response :=
      if 3 < part then ⟨.badOperand, r.tag, 0#8, 0#8, 0#8, 0#8, 0#8⟩
      else if p.result.length ≤ 5 * part then ⟨.endOfList, r.tag, 0#8, 0#8, 0#8, 0#8, 0#8⟩
      else ⟨.ok, r.tag, p.result.getD (5 * part) 0#8, p.result.getD (5 * part + 1) 0#8,
        p.result.getD (5 * part + 2) 0#8, p.result.getD (5 * part + 3) 0#8, p.result.getD (5 * part + 4) 0#8⟩ })) ∧
    exec (.portReset c r) s = .next (settle (s1.setPort c { p with
      response := ⟨.idle, 0#8, 0#8, 0#8, 0#8, 0#8, 0#8⟩, result := [], flags := 0#9, cursor := .closed })) ∧
    exec (.badCheck c tag) s =
      .next (settle (s.setPort c { s.port c with response := ⟨.badCheck, tag, 0#8, 0#8, 0#8, 0#8, 0#8⟩ })) ∧
    exec (.badCommand c code r) s = .next (settle (s1.setPort c { p with
      response := ⟨.badCommand, r.tag, 0#8, 0#8, 0#8, 0#8, 0#8⟩, result := [] })) ∧
    exec (.shortFrame c) s = .next (settle s)

/-- R169, R170, R171: READ_FLAGS and READ_CONDITIONS change no state but their answer; IN_SERVICE, CLEAR_FLAGS clears
the named flags of its own port, and SET_MASK opens the named flags of its mask and closes every other. The codes of the
enumerated fields are read from the order of their tables, and that 1 is yes for the interrupt line, the loss, the flood
and the horn, and open in a mask, is the model's choice (notes/assumptions/14.md). -/
def Obligations.FlagAndConditionRequests : Prop :=
  ∀ (c : Console) (r : Request) (s : State),
    let s1 := frameArrives c s
    let p := s1.port c
    let named := flagSet r.b3 r.b4
    exec (.readFlags c r) s = .next (answeredOk c r (flagBytes p.flags ++ flagBytes p.mask ++ boolByte p.lineDriven) s1) ∧
    exec (.readConditions c r) s = .next (answeredOk c r
      (byte1 s1.receiver.link.code ++ byte1 s1.journal.stream.code ++ boolByte s1.journal.lossPending ++
        boolByte (anyFlood s1 (s1.horn c).scope) ++ boolByte (hornDriven s1 c) ++ [absentSet s1] ++
        byte1 s1.mode.code) s1) ∧
    (s.mode = .inService →
      exec (.clearFlags c r) s = .next (answeredOk c r (flagBytes (p.flags &&& ~~~named))
        (s1.setPort c { p with flags := p.flags &&& ~~~named })) ∧
      exec (.setMask c r) s = .next (answeredOk c r (flagBytes named) (s1.setPort c { p with mask := named })))

/-- 00_scope, R10, R167, R168, R173, R174, and each command's own rule: when a request is refused, and what it leaves.
Every command's tests stand in `requestTests` (Safety.lean) in the order of its rule, a BAD_OPERAND test before an
operator test where the rule has it so: WRONG_MODE in the device state that the command's row of 10.3 does not show;
NOT_SIGNED_ON and then ROLE for the requests R10 lists; NO_AUTHORITY, NOT_SIGNED_ON and ROLE, in that order, for those
that console 0's supervisor makes (TAKEOVER, HO_FORCE, SET_TIME, JOURNAL_STOP, JOURNAL_CLEAR, JOURNAL_RESET, RESTART,
RECONFIGURE), and NO_AUTHORITY for JOURNAL_START and the configuration writes from another console. A request that fails
a test, and none before it, is answered with that test's status and result record (READ_MORE leaves the record in
place), and one that fails none is answered OK, END or, by PORT_RESET, IDLE. A refused request leaves every block as the
arrival of its frame left it: only its port's response and result record are its own. The order of HO_OFFER's tests is
the model's choice between R87 and R107 (notes/assumptions/32.md). -/
def Obligations.RefusedRequestsChangeNothing : Prop :=
  ∀ (i : Instr) (c : Console) (code : Byte) (r : Request) (s : State),
    let s1 := frameArrives c s
    let refused (st : Status) (record : List Byte) : State := settle (s1.setPort c { s1.port c with
      response := ⟨st, r.tag, record.getD 0 0#8, 0#8, 0#8, 0#8, 0#8⟩
      result := if code = 0x01#8 then (s1.port c).result else record })
    frameOf i = some (c, code, r) →
    (∀ t, exec i s = .next t → (t.port c).response.status ≠ .ok → (t.port c).response.status ≠ .endOfList →
      (t.port c).response.status ≠ .idle →
      t = settle (s1.setPort c { s1.port c with response := (t.port c).response, result := (t.port c).result }) ∧
      (t.port c).response.tag = r.tag) ∧
    (i.wellFormed = true →
      (∀ (before after : List RequestTest) (x : RequestTest), requestTests s1 c code r = before ++ x :: after →
        (∀ y ∈ before, ¬ y.failsWhen) → x.failsWhen → exec i s = .next (refused x.status x.record)) ∧
      ((∀ x ∈ requestTests s1 c code r, ¬ x.failsWhen) → ∃ t, exec i s = .next t ∧
        ((t.port c).response.status = .ok ∨ (t.port c).response.status = .endOfList ∨
          (t.port c).response.status = .idle)))

/-! ## Readers -/

/-- R8, R11, R45: READ_SIGNON, READ_OPERATOR, READ_POINT and READ_AREA return the entry as the request's arrival finds
it, and change no state but their answer. The record for nobody signed on and for an empty slot, two bytes of 0, and the
one presence byte of READ_POINT's page 4 are the model's reading (notes/assumptions/15.md), as are the codes of fields
that no numbered table gives, 1 for yes among them (notes/assumptions/14.md). -/
def Obligations.TableReaders : Prop :=
  ∀ (c : Console) (r : Request) (s : State),
    let s1 := frameArrives c s
    let yesNo (b : Bool) : List Byte := if b then [1#8] else [0#8]
    let maybe (width : Nat) (x : Option (List Byte)) : List Byte := match x with
      | some l => 1#8 :: l
      | none => 0#8 :: List.replicate width 0#8
    (∀ n : Console, r.b3.toNat = n.val →
      (∀ k op, (s1.desk n).signedOn = some k → s1.roster[k] = some op →
        exec (.readSignon c r) s = .next (answeredOk c r (byte2 op.number ++ byte1 op.role.code ++ byte1 k) s1)) ∧
      ((s1.desk n).signedOn = none → exec (.readSignon c r) s = .next (answeredOk c r [0#8, 0#8] s1))) ∧
    (∀ k : SlotNo, r.b3.toNat = k.val →
      exec (.readOperator c r) s = .next (answeredOk c r
        (match s1.roster[k] with
          | some op => byte2 op.number ++ byte1 op.role.code ++ [op.classes] ++
              (match op.console with
                | some d => [1#8] ++ byte1 d
                | none => [0#8, 0#8])
          | none => [0#8, 0#8]) s1)) ∧
    (∀ p : PointNo, num16 r.b3 r.b4 = p.val →
      let q := s1.point p
      let page (n : Byte) (l : List Byte) : Prop :=
        r.b5 = n → exec (.readPoint c r) s = .next (answeredOk c r l s1)
      page 0#8 (yesNo q.configured ++ byte1 q.area ++ byte1 q.priority.number ++ byte1 q.group ++ yesNo q.shelvable ++
        [if q.input = .active then 0#8 else 1#8] ++
        [match q.quality with | .good => 0#8 | .suspect => 1#8 | .stale => 2#8] ++
        [match q.state with
          | .normal => 0#8 | .raised => 1#8 | .standing => 2#8 | .returned => 3#8 | .shelved => 4#8] ++
        [if c ∈ q.ackSet then 0#8 else if q.ackSet = [] then 2#8 else 1#8] ++
        [match q.firstMark with | some .first => 0#8 | some .follower => 1#8 | none => 2#8] ++ yesNo q.quiet) ∧
      page 1#8 (maybe 4 (q.serial.map fun n => byte4 (BitVec.ofNat 32 n))) ∧
      page 2#8 (maybe 4 (q.raiseTime.map byte4)) ∧
      page 3#8 (maybe 4 (q.ack.map fun k => byte4 k.time)) ∧
      page 4#8 (maybe 4 (q.ack.map fun k => byte1 k.console ++ byte2 k.operator ++ yesNo k.override))) ∧
    (∀ a : AreaNo, r.b3.toNat = a.val →
      let e := s1.area a
      let page (n : Byte) (l : List Byte) : Prop :=
        r.b4 = n → exec (.readArea c r) s = .next (answeredOk c r l s1)
      page 0#8 (byte1 e.owner ++
        [match e.attendance with | .attended => 0#8 | .unattended _ => 1#8 | .escalated _ => 2#8] ++
        maybe 2 (e.record.map fun n : RecordNo => byte1 n ++
          [match (s1.record n).phase with | .free => 0#8 | .offered => 1#8 | .reviewing => 2#8]) ++
        byte1 e.reqClass ++ [if e.jointAck = .either then 0#8 else 1#8] ++ byte1 e.gate) ∧
      page 1#8 (byte2 e.unack.p1 ++ byte2 e.unack.p2 ++ byte2 e.unack.p3 ++ byte2 e.unack.p4) ∧
      page 2#8 (byte2 e.standing ++ byte2 e.shelved ++ byte2 e.notGood) ∧
      page 3#8 (maybe 4 (match e.attendance with
        | .attended => none
        | .unattended since => some (byte4 since)
        | .escalated since => some (byte4 since))))

/-- R55, R66, R70, R130: READ_HORN, READ_SHELF, READ_GROUP and READ_FLOOD return what the request's arrival finds, and
change no state but their answer; a shelf position beyond the entries answers END with an empty record. The byte for a
demand of NONE is a free value (notes/assumptions/5.md); that the demand priority is one byte with no presence byte is
the model's choice (notes/assumptions/15.md), and that 1 means running, driven and yes is the model's choice
(notes/assumptions/14.md). -/
def Obligations.BlockReaders : Prop :=
  ∀ (c : Console) (r : Request) (s : State),
    let s1 := frameArrives c s
    (∀ n : Console, r.b3.toNat = n.val →
      exec (.readHorn c r) s = .next (answeredOk c r
        (areaBytes (s1.horn n).scope ++
          [match demandPriority s1 n with
            | some p => BitVec.ofNat 8 p.number
            | none => Config.demandNoneByte] ++
          boolByte (s1.horn n).chirp.isSome ++ byte2 (s1.horn n).silenced.length ++ boolByte (hornDriven s1 n)) s1)) ∧
    (r.b3.toNat ≤ 31 →
      (∀ e, s1.shelf[r.b3.toNat]? = some e →
        exec (.readShelf c r) s = .next (answeredOk c r
          (byte2 e.point ++ byte4 e.expiry ++ byte2 (remainingSeconds s1 e.expiry) ++ byte1 e.console ++
            byte2 e.operator ++ byte1 s1.shelf.length) s1)) ∧
      (s1.shelf.length ≤ r.b3.toNat →
        exec (.readShelf c r) s = .next (settle (s1.setPort c { s1.port c with
          response := ⟨.endOfList, r.tag, 0#8, 0#8, 0#8, 0#8, 0#8⟩, result := [] })))) ∧
    (∀ g : GroupNo, r.b3.toNat = g.val + 1 →
      exec (.readGroup c r) s = .next (answeredOk c r
        ((match s1.groups[g] with
          | .armed => [0#8] ++ [0#8, 0#8, 0#8] ++ [0#8, 0#8]
          | .tripped p => [1#8] ++ [1#8] ++ byte2 p ++ [1#8] ++ byte1 (s1.point p).state.code) ++
        byte2 (s1.points.toList.filter (isMember g)).length ++
        byte2 ((s1.points.toList.filter (isMember g)).filter fun q => q.state != .normal).length) s1)) ∧
    (∀ a : AreaNo, r.b3.toNat = a.val →
      exec (.readFlood c r) s = .next (answeredOk c r
        (byte2 (s1.area a).load ++ byte1 (s1.area a).flood.code ++ byte2 (s1.area a).tOn ++
          byte2 (s1.area a).tOffWritten ++ byte2 (s1.area a).tOffApplied) s1)) ∧
    (r.b3.toNat = 24 → exec (.readFlood c r) s = .next (answeredOk c r (byte2 s1.weights.p1) s1)) ∧
    (r.b3.toNat = 25 → exec (.readFlood c r) s = .next (answeredOk c r (byte2 s1.weights.p2) s1)) ∧
    (r.b3.toNat = 26 → exec (.readFlood c r) s = .next (answeredOk c r (byte2 s1.weights.p3) s1)) ∧
    (r.b3.toNat = 27 → exec (.readFlood c r) s = .next (answeredOk c r (byte2 s1.weights.p4) s1)) ∧
    (r.b3.toNat = 28 → exec (.readFlood c r) s = .next (answeredOk c r (byte1 s1.decayShift) s1))

/-- R108, R164, R149: HO_READ, READ_JOURNAL and READ_LINK_COUNTS return what the request's arrival finds; the counting
read with its clear flag set then sets the four counters to 0, and nothing else changes. The codes of the enumerated
fields are read from the order of their tables, and 1 is yes and a release given (notes/assumptions/14.md); the fields
stand in the order named, and that page 0 of READ_JOURNAL gives 0 bytes sent, with no presence byte, where no unit is in
transmission is the model's choice (notes/assumptions/15.md). -/
def Obligations.RecordJournalAndLinkReaders : Prop :=
  ∀ (c : Console) (r : Request) (s : State),
    let s1 := frameArrives c s
    let yesNo (b : Bool) : List Byte := if b then [1#8] else [0#8]
    let maybe (width : Nat) (x : Option (List Byte)) : List Byte := match x with
      | some l => 1#8 :: l
      | none => 0#8 :: List.replicate width 0#8
    let mode (m : Notify) : List Byte := match m with
      | .word => [0#8]
      | .items => [1#8]
    let j := s1.journal
    let k := s1.receiver.counts
    let counts := byte2 k.framing ++ byte2 k.check ++ byte2 k.gap ++ byte2 k.unknown ++ byte1 s1.receiver.link.code ++
      byte1 s1.receiver.framing.code ++ optBytes 1 (fun b => [b]) s1.receiver.expected ++ byte4 s1.receiver.lastValid
    (∀ n : RecordNo, r.b3.toNat = n.val →
      let h := s1.record n
      let page (n : Byte) (l : List Byte) : Prop := r.b4 = n → exec (.hoRead c r) s = .next (answeredOk c r l s1)
      page 0#8 ([match h.phase with | .free => 0#8 | .offered => 1#8 | .reviewing => 2#8] ++
        maybe 1 (h.outConsole.map fun d => byte1 d) ++ maybe 2 (h.outOperator.map byte2) ++
        maybe 1 (h.inConsole.map fun d => byte1 d) ++ maybe 2 (h.inOperator.map byte2) ++ areaBytes h.areas) ∧
      page 1#8 (itemBytes h.presented ++ itemBytes h.confirmed ++ yesNo h.release ++ yesNo h.held ++ byte2 h.timer) ∧
      page 2#8 (mode h.outNotify ++ itemBytes h.outWatch ++ mode h.inNotify ++ itemBytes h.inWatch) ∧
      page 3#8 (maybe 2 (h.lastOutcome.map fun x =>
        [match x.1 with
          | .committed => 0#8 | .superseded => 1#8 | .withdrawn => 2#8 | .declined => 3#8 | .lapsed => 4#8
          | .aborted => 5#8] ++
        [match x.2 with
          | .take => 0#8 | .force => 1#8 | .outgoing => 2#8 | .incoming => 3#8 | .offerTimeout => 4#8
          | .reviewTimeout => 5#8 | .signOff => 6#8 | .supervisor => 7#8]))) ∧
    (r.b3 = 0#8 → exec (.readJournal c r) s = .next (answeredOk c r
      ([match j.stream with | .stopped => 0#8 | .streaming => 1#8 | .stopping => 2#8] ++ byte2 j.fifo.length ++
        byte2 (j.fifo.filter fun x => x.cls == .accountable).length ++
        [match j.unit with | none => 0#8 | some .record => 1#8 | some (.filler _) => 2#8] ++ byte1 j.bytesSent ++
        byte2 j.dropRoutine ++ byte2 j.dropAccountable ++ yesNo j.ready ++ byte1 j.rate) s1)) ∧
    (r.b3 = 1#8 → exec (.readJournal c r) s = .next (answeredOk c r
      (byte4 s1.time.runClock ++ byte4 s1.time.offset ++ byte4 (s1.time.runClock + s1.time.offset)) s1)) ∧
    (r.b3.toNat = 0 → exec (.readLinkCounts c r) s = .next (answeredOk c r counts s1)) ∧
    (r.b3.toNat = 1 → exec (.readLinkCounts c r) s =
      .next (answeredOk c r counts { s1 with receiver := { s1.receiver with counts := ⟨0, 0, 0, 0⟩ } }))

/-! ## Sign-on and sign-off -/

/-- R12, R13: SIGN_ON of a number that one slot holds, signed on nowhere else, at a console with nobody signed on: the
console and the operator name each other, the SIGN_ON record is offered, attendance is re-evaluated for the console's
areas, and the operator's role is returned. That the SIGN_ON record stands before those of the re-evaluation is the
model's reading (notes/assumptions/16.md). -/
def Obligations.SignOnTaken : Prop :=
  ∀ (c : Console) (r : Request) (s : State) (k : SlotNo) (op : Operator),
    let s1 := frameArrives c s
    let s2 := { s1.setDesk c { s1.desk c with signedOn := some k } with
      roster := s1.roster.set k (some { op with console := some c }) }
    let s3 := offer s2 (journalRecord s2 .signOn .accountable c c 0#6 op.number 0#32)
    s.mode = .inService → 1 ≤ op.number → op.number ≤ 9999 → num16 r.b3 r.b4 = op.number →
    s.roster[k] = some op → (∀ (j : SlotNo) (o : Operator), s.roster[j] = some o → o.number = op.number → j = k) →
    (op.console = none ∨ op.console = some c) → (s.desk c).signedOn = none →
    exec (.signOn c r) s = .next (answeredOk c r (byte1 op.role.code) (reevaluateAll s3 (areasOfConsole s3 c)))

/-- R14, R15: SIGN_OFF with an operator signed on, IN_SERVICE: the console and the operator no longer name each other,
the SIGN_OFF record is offered, a live record in which the console is incoming ends ABORTED with cause SIGN_OFF, and
attendance is re-evaluated. Anywhere else it is taken and changes nothing. The order of its effects is the model's
reading (notes/assumptions/16.md). -/
def Obligations.SignOffTaken : Prop :=
  ∀ (c : Console) (r : Request) (s : State),
    let s1 := frameArrives c s
    (∀ (k : SlotNo) (op : Operator),
      let s2 := { s1.setDesk c { s1.desk c with signedOn := none } with
        roster := s1.roster.set k (some { op with console := none }) }
      let s3 := offer s2 (journalRecord s2 .signOff .accountable c c 0#6 op.number 0#32)
      let s4 := match incomingRecord s3 c with
        | some n => (endRecord s3 n .aborted .signOff c op.number).state
        | none => s3
      s.mode = .inService → (s.desk c).signedOn = some k → s.roster[k] = some op →
      exec (.signOff c r) s = .next (answeredOk c r [] (reevaluateAll s4 (areasOfConsole s4 c)))) ∧
    (s.mode = .configuring ∨ (s.desk c).signedOn = none → exec (.signOff c r) s = .next (answeredOk c r [] s1))

/-- R4: what a re-evaluation makes of an area's attendance, by its value before and the attendance test; no other
area's attendance changes. R117: where it ends the area's escalation, the horn scopes are recomputed, PRESENCE is set at
console 0 and at the owner, and point 508 is given NORMAL if no area is left ESCALATED. -/
def Obligations.ReevaluationFollowsTheTable : Prop :=
  ∀ (s : State) (a : AreaNo),
    ((reevaluate s a).area a).attendance =
      (match (s.area a).attendance, attendanceTest s a with
        | .attended, true => .attended
        | .attended, false => .unattended s.time.runClock
        | .unattended _, true => .attended
        | .unattended t, false => .unattended t
        | .escalated _, true => .attended
        | .escalated t, false => .escalated t) ∧
    (∀ b, b ≠ a → ((reevaluate s a).area b).attendance = (s.area b).attendance) ∧
    (∀ since, (s.area a).attendance = .escalated since → attendanceTest s a = true →
      let s1 := recomputeScopes { s with areas := s.areas.set a { s.area a with attendance := .attended } }
      let s2 := setFlag .presence (setFlag .presence s1 0) (s.area a).owner
      ((∃ b u, b ≠ a ∧ (s.area b).attendance = .escalated u) → reevaluate s a = s2) ∧
      ((∀ b u, b ≠ a → (s.area b).attendance ≠ .escalated u) → reevaluate s a = systemPoint s2 508 .normal))

/-- R5: the attendance test. -/
def Obligations.AttendanceTestIsTheTwoArms : Prop :=
  ∀ (s : State) (a : AreaNo),
    let holds (c : Console) : Prop := s.presentAt c = true ∧ ∃ op, s.operatorAt c = some op ∧
      (op.role = .operator ∨ op.role = .supervisor) ∧ op.classes.getLsbD (s.area a).reqClass = true
    attendanceTest s a = true ↔
      holds (s.area a).owner ∨
      ∃ (r : RecordNo) (c : Console), (s.area a).record = some r ∧ (s.record r).phase = .reviewing ∧
        (s.record r).inConsole = some c ∧ holds c

/-! ## Acknowledgement, horns, lists -/

/-- R16, R18, R21, R36: ACK_POINT of a configured RAISED or RETURNED point by an operator. Without the override flag, a
console with standing completes the acknowledgement, but for a priority-1 point under BOTH_P1 between two parties: there
the first party's is recorded as partial and the second party's completes. With the override flag, console 0's
supervisor completes it whatever the standing (AckRefusals says what a console's standing is). The result is the point,
the outcome and the state after. -/
def Obligations.AckPointTaken : Prop :=
  ∀ (c : Console) (r : Request) (s : State) (p : PointNo),
    let s1 := frameArrives c s
    let q := s1.point p
    let joint := ackStanding s1 c q.area = .party ∧ (s1.area q.area).jointAck = .bothP1 ∧ q.priority = .p1
    let completed (b : Bool) := completeAck s1 p c (s1.operatorNumber c) b
    s.operatorReady c → num16 r.b3 r.b4 = p.val → q.configured = true → (q.state = .raised ∨ q.state = .returned) →
    (r.b5.getLsbD 0 = false → ackStanding s1 c q.area ≠ .none →
      (¬ joint ∨ (q.ackSet ≠ [] ∧ c ∉ q.ackSet) →
        exec (.ackPoint c r) s = .next (answeredOk c r
          (byte2 p ++ [0#8] ++ byte1 ((completed false).point p).state.code) (completed false))) ∧
      (joint ∧ q.ackSet = [] →
        exec (.ackPoint c r) s = .next (answeredOk c r
          (byte2 p ++ [1#8] ++ byte1 ((partialAck s1 p c).point p).state.code) (partialAck s1 p c)))) ∧
    (r.b5.getLsbD 0 = true → c = 0 → s.supervisorAt 0 = true →
      exec (.ackPoint c r) s = .next (answeredOk c r
        (byte2 p ++ [0#8] ++ byte1 ((completed true).point p).state.code) (completed true)))

/-- R16, R17, R36 to R38: when an acknowledgement request is refused, and with which status: in CONFIGURING, without an
operator, with the override flag from another console than console 0 or without its supervisor; ACK_POINT and ACK_AREA
with a number out of range, and ACK_POINT of an unconfigured point; both without standing, which the override flag
passes over; and ACK_POINT of a point that is not unacknowledged, or whose ack set already holds the party asking. R17:
in every state a console's ack standing in an area is PARTY where the area's record is REVIEWING and the console is
either of its parties, SOLE where the console owns the area and no such record holds it, and NONE otherwise. -/
def Obligations.AckRefusals : Prop :=
  ∀ (c : Console) (r : Request) (s : State) (p : PointNo),
    let s1 := frameArrives c s
    let q := s1.point p
    let refused (st : Status) := settle (s1.setPort c { s1.port c with
      response := ⟨st, r.tag, 0#8, 0#8, 0#8, 0#8, 0#8⟩, result := [] })
    (s.mode = .configuring → exec (.ackPoint c r) s = .next (refused .wrongMode) ∧
      exec (.ackArea c r) s = .next (refused .wrongMode) ∧ exec (.ackAll c r) s = .next (refused .wrongMode)) ∧
    (s.mode = .inService → s.nobodyAt c = true → exec (.ackPoint c r) s = .next (refused .notSignedOn) ∧
      exec (.ackArea c r) s = .next (refused .notSignedOn) ∧ exec (.ackAll c r) s = .next (refused .notSignedOn)) ∧
    (s.mode = .inService → s.traineeAt c = true → exec (.ackPoint c r) s = .next (refused .role) ∧
      exec (.ackArea c r) s = .next (refused .role) ∧ exec (.ackAll c r) s = .next (refused .role)) ∧
    (s.operatorReady c → r.b5.getLsbD 0 = true →
      (c ≠ 0 → exec (.ackPoint c r) s = .next (refused .noAuthority)) ∧
      (c = 0 → s.supervisorAt 0 = false → exec (.ackPoint c r) s = .next (refused .role)) ∧
      (c = 0 → s.supervisorAt 0 = true → num16 r.b3 r.b4 = p.val → q.configured = true →
        q.state = .normal ∨ q.state = .standing ∨ q.state = .shelved → exec (.ackPoint c r) s = .next (refused .state))) ∧
    (s.operatorReady c → r.b5.getLsbD 0 = false ∨ (c = 0 ∧ s.supervisorAt 0 = true) →
      (512 ≤ num16 r.b3 r.b4 → exec (.ackPoint c r) s = .next (refused .badOperand)) ∧
      (num16 r.b3 r.b4 = p.val → q.configured = false → exec (.ackPoint c r) s = .next (refused .badOperand))) ∧
    (s.operatorReady c → num16 r.b3 r.b4 = p.val → r.b5.getLsbD 0 = false → q.configured = true →
      (ackStanding s1 c q.area = .none → exec (.ackPoint c r) s = .next (refused .noAuthority)) ∧
      (ackStanding s1 c q.area ≠ .none → q.state = .normal ∨ q.state = .standing ∨ q.state = .shelved →
        exec (.ackPoint c r) s = .next (refused .state)) ∧
      (ackStanding s1 c q.area = .party → (s1.area q.area).jointAck = .bothP1 → q.priority = .p1 → c ∈ q.ackSet →
        exec (.ackPoint c r) s = .next (refused .state))) ∧
    (s.operatorReady c → (24 ≤ r.b3.toNat → exec (.ackArea c r) s = .next (refused .badOperand)) ∧
      ∀ a : AreaNo, r.b3.toNat = a.val → ackStanding s1 c a = .none →
        exec (.ackArea c r) s = .next (refused .noAuthority)) ∧
    (∀ (t : State) (d : Console) (a : AreaNo),
      let reviewing (n : RecordNo) : Prop := (t.area a).record = some n ∧ (t.record n).phase = .reviewing
      let sole : Prop := (t.area a).owner = d ∧ ∀ n, ¬ reviewing n
      let party : Prop := ∃ n, reviewing n ∧ ((t.record n).outConsole = some d ∨ (t.record n).inConsole = some d)
      (ackStanding t d a = .sole ↔ sole) ∧ (ackStanding t d a = .party ↔ party) ∧
        (ackStanding t d a = .none ↔ ¬ sole ∧ ¬ party))

/-- R37, R38, R40, R122: ACK_AREA, ACK_ALL and a debounced ACK press visit, in ascending number, every configured point
that is RAISED or RETURNED at their arrival in the areas they reach (those in which the console has standing,
AckRefusals), and settle each; the requests return the two counts, and the press changes nothing at its console's port.
With nobody signed on the press is dropped with an UNSIGNED_BUTTON record; under a TRAINEE it acknowledges nothing. R18:
a visit completes the acknowledgement and counts it, but for a priority-1 point under BOTH_P1 between two parties, where
the first party's is recorded as partial and counted so and its second is passed over; so is a point that is no longer
RAISED or RETURNED. That the value bytes to which 10.4 gives no content are 0 is the model's choice
(notes/assumptions/31.md). -/
def Obligations.AckAreaAllAndPress : Prop :=
  ∀ (c : Console) (r : Request) (s : State),
    let s1 := frameArrives c s
    let tally (t : State) (f : AreaNo → Bool) := (((List.finRange 512).filter fun p =>
      (t.point p).configured && ((t.point p).state == .raised || (t.point p).state == .returned) &&
        f (t.point p).area).foldl (visitAck c) ⟨t, 0, 0⟩)
    (∀ (v : AckTally) (p : PointNo),
      let q := v.state.point p
      let joint := ackStanding v.state c q.area = .party ∧ (v.state.area q.area).jointAck = .bothP1 ∧ q.priority = .p1
      (q.state ≠ .raised → q.state ≠ .returned → visitAck c v p = v) ∧
      (q.state = .raised ∨ q.state = .returned →
        (¬ joint ∨ (q.ackSet ≠ [] ∧ c ∉ q.ackSet) → visitAck c v p =
          ⟨completeAck v.state p c (v.state.operatorNumber c) false, v.completed + 1, v.recorded⟩) ∧
        (joint ∧ q.ackSet = [] → visitAck c v p = ⟨partialAck v.state p c, v.completed, v.recorded + 1⟩) ∧
        (joint ∧ c ∈ q.ackSet → visitAck c v p = v))) ∧
    (∀ a : AreaNo, s.operatorReady c → r.b3.toNat = a.val → ackStanding s1 c a ≠ .none →
      exec (.ackArea c r) s = .next (answeredOk c r
        (byte2 (tally s1 (· == a)).completed ++ byte2 (tally s1 (· == a)).recorded) (tally s1 (· == a)).state)) ∧
    (s.operatorReady c →
      exec (.ackAll c r) s = .next (answeredOk c r
        (byte2 (tally s1 fun a => ackStanding s1 c a != .none).completed ++
          byte2 (tally s1 fun a => ackStanding s1 c a != .none).recorded)
        (tally s1 fun a => ackStanding s1 c a != .none).state)) ∧
    (lineDue s c .ack .pressed = true →
      let s2 := s.setDeskLine c .ack { s.deskLine c .ack with debounced := .pressed }
      (s.nobodyAt c = false → s.traineeAt c = false →
        exec (.deskAckPress c) s = .next (settle (tally s2 fun a => ackStanding s2 c a != .none).state)) ∧
      (s.traineeAt c = true → exec (.deskAckPress c) s = .next (settle s2)) ∧
      (s.nobodyAt c = true → exec (.deskAckPress c) s =
        .next (settle (offer s2 (journalRecord s2 .unsignedButton .accountable c c 0#6 0 (value12 0))))))

/-- R34, R39, R20, R125: what the completion of a RAISED or RETURNED point's acknowledgement does, in a journal with
room: the point's state and acknowledgement fields, its area's counts, the ACK record, and the ACK_PARTNER flags; every
other point keeps all but a first mark that a rearm clears, and every other area its counts. R53: a step to NORMAL that
leaves every member of the point's TRIPPED group NORMAL rearms it, and clears its members' marks; no other does. That
the ACK record's override mark stands in bit 7 of its qualifier, as in 10.4, and not in its value, as R21 has it, and
that the value bytes to which 10.4 gives no content are 0, are the model's choices (notes/assumptions/29.md, 31.md). -/
def Obligations.AcknowledgementCompletes : Prop :=
  ∀ (s : State) (p : PointNo) (c : Console) (op : Nat) (override : Bool),
    let q := s.point p
    let t := completeAck s p c op override
    let reached : Annunciation := if q.state = .raised then .standing else .normal
    let member (g : GroupNo) (x : Point) : Prop := x.configured = true ∧ x.group.val = g.val + 1
    let rearms (g : GroupNo) : Prop := q.state = .returned ∧ member g q ∧ s.groups[g] ≠ .armed ∧
      ∀ p', p' ≠ p → member g (s.point p') → (s.point p').state = .normal
    s.calm 1 → q.configured = true → (q.state = .raised ∨ q.state = .returned) →
    (t.point p).state = reached ∧ (t.point p).ackSet = [] ∧
    (t.point p).ack = some ⟨s.journalClock, c, op, override⟩ ∧ (t.point p).raiseTime = q.raiseTime ∧
    (t.point p).serial = (if q.state = .raised then q.serial else none) ∧
    (t.point p).quiet = (if q.state = .raised then q.quiet else false) ∧
    (t.area q.area).unack.get q.priority = (s.area q.area).unack.get q.priority - 1 ∧
    (t.area q.area).standing = (s.area q.area).standing + (if q.state = .raised then 1 else 0) ∧
    (∀ a, a ≠ q.area → t.area a = s.area a) ∧
    (∀ p', p' ≠ p → { t.point p' with firstMark := (s.point p').firstMark } = s.point p') ∧
    (∀ g : GroupNo, (rearms g → t.groups[g] = .armed ∧ ∀ x, member g (s.point x) → (t.point x).firstMark = none) ∧
      (¬ rearms g → t.groups[g] = s.groups[g] ∧
        ∀ x, member g (s.point x) → (t.point x).firstMark = (s.point x).firstMark)) ∧
    (∀ x, (∀ g, ¬ member g (s.point x)) → (t.point x).firstMark = (s.point x).firstMark) ∧
    t.journal.fifo = s.journal.fifo ++ [journalRecord s .ack .accountable p c (BitVec.ofBool override ++ 0#5) op
      (value12 reached.code)] ∧
    (∀ d, (t.horn d).silenced = (s.horn d).silenced.filter (· ≠ p) ∧ (t.horn d).scope = (s.horn d).scope) ∧
    (∀ d, (t.port d).flags = if d ∈ q.ackSet ∧ (∃ e ∈ q.ackSet, e ≠ c) then (s.port d).flags ||| EventFlag.ackPartner.bit
      else (s.port d).flags)

/-- R18, R20: a partial acknowledgement, in a journal with room: the console joins the point's ack set, the point keeps
its state, an ACK_PARTIAL record is made, and ACK_PARTNER is set at the other party's port; nothing else changes. That
the value bytes to which 10.4 gives no content are 0 is the model's choice (notes/assumptions/31.md). -/
def Obligations.PartialAcknowledgementIsRecorded : Prop :=
  ∀ (s : State) (p : PointNo) (c other : Console) (n : RecordNo),
    let q := s.point p
    let s1 := s.putPoint p { q with ackSet := c :: q.ackSet }
    let rec1 := journalRecord s .ackPartial .accountable p c 0#6 (s.operatorNumber c) (value12 q.state.code)
    s.calm 1 → (s.area q.area).record = some n → other ≠ c →
    ((s.record n).outConsole = some c ∧ (s.record n).inConsole = some other ∨
      (s.record n).outConsole = some other ∧ (s.record n).inConsole = some c) →
    partialAck s p c = setFlag .ackPartner { s1 with journal := s1.journal.accept rec1 } other

/-- R123, R125, R129: SILENCE, and a debounced press of a desk's SILENCE button: every point in the console's horn
demand joins its silenced set, its chirp timer stops, its demand becomes NONE and its horn is released; the request
returns the number of points, and nothing but that console's horn, port and (for the press) line changes. R126: the
demand is the configured RAISED points, not quiet, whose area is in the console's horn scope and which its silenced set
does not hold; the demand priority is the most urgent of theirs, or NONE. -/
def Obligations.SilenceQuietsTheConsole : Prop :=
  ∀ (c : Console) (r : Request) (s : State),
    let silencedBy (h : Horn) (t : State) : Prop :=
      h.scope = (t.horn c).scope ∧ h.chirp = none ∧
        (∀ p, p ∈ h.silenced ↔ p ∈ (t.horn c).silenced ∨ p ∈ (hornDemand t c).map (·.1))
    let s1 := frameArrives c s
    let s2 := s.setDeskLine c .silence { s.deskLine c .silence with debounced := .pressed }
    ((hornDemand s c).map (·.1)).Nodup ∧
    (∀ (p : PointNo) (q : Point), (p, q) ∈ hornDemand s c ↔
      q = s.point p ∧ q.configured = true ∧ q.state = .raised ∧ q.quiet = false ∧
        (s.horn c).scope.getLsbD q.area = true ∧ p ∉ (s.horn c).silenced) ∧
    (demandPriority s c = none ↔ hornDemand s c = []) ∧
    (∀ pr, demandPriority s c = some pr ↔ (∃ x ∈ hornDemand s c, x.2.priority = pr) ∧
      ∀ x ∈ hornDemand s c, pr.number ≤ x.2.priority.number) ∧
    (s.mode = .inService → ∃ h t, silencedBy h s1 ∧ t = answeredOk c r (byte2 (hornDemand s1 c).length) (s1.setHorn c h) ∧
      exec (.silence c r) s = .next t ∧ demandPriority t c = none ∧ (t.horn c).out = false) ∧
    (lineDue s c .silence .pressed = true → ∃ h t, silencedBy h s2 ∧ t = settle (s2.setHorn c h) ∧
      exec (.deskSilencePress c) s = .next t ∧ demandPriority t c = none ∧ (t.horn c).out = false)

/-- R41 to R44: LIST_OPEN puts the port's cursor before the first entry with the scope given and returns the number of
entries in scope. LIST_NEXT with an open cursor returns the entry of least key among the listed points that the scope
admits and whose key is above the cursor's, and moves the cursor to that key; where there is none it answers END and
leaves the cursor. The codes of the first mark and of the acknowledgement view are read from the order of their lists,
and that 1 is yes for the quiet mark is the model's choice (notes/assumptions/14.md). -/
def Obligations.AlarmListIsReadInKeyOrder : Prop :=
  ∀ (c : Console) (r : Request) (s : State) (sc : Scope),
    let s1 := frameArrives c s
    let cur := (s1.port c).cursor
    let admitted (sc : Scope) (p : PointNo) : Prop := (s1.point p).configured = true ∧
      ((s1.point p).state = .raised ∨ (s1.point p).state = .returned ∨ (s1.point p).state = .standing) ∧
      (match sc with
        | .own => (s1.horn c).scope.getLsbD (s1.point p).area = true
        | .all => True
        | .area a => (s1.point p).area = a)
    let key (p : PointNo) : ListKey := ⟨(s1.point p).priority.number, (s1.point p).serial.getD 0, p⟩
    let above (p : PointNo) : Prop := match cur with
      | .atKey _ last => last.before (key p) = true
      | _ => True
    s.mode = .inService →
    (scopeOf r.b3.toNat r.b4.toNat = some sc → ∃ l : List PointNo, l.Nodup ∧ (∀ p, p ∈ l ↔ admitted sc p) ∧
      exec (.listOpen c r) s = .next (answeredOk c r (byte2 l.length)
        (s1.setPort c { s1.port c with cursor := .beforeFirst sc }))) ∧
    (cur ≠ .closed →
      (∀ p, admitted cur.scope p → above p →
        (∀ p', admitted cur.scope p' → above p' → p' = p ∨ (key p).before (key p') = true) →
        exec (.listNext c r) s = .next (answeredOk c r
          (byte2 p ++ byte1 (s1.point p).area ++ byte1 (s1.point p).priority.number ++
            byte1 (s1.point p).state.code ++ byte1 (s1.point p).quality.code ++ byte1 (ackView c (s1.point p)) ++
            byte1 (firstMarkCode (s1.point p).firstMark) ++ boolByte (s1.point p).quiet)
          (s1.setPort c { s1.port c with cursor := .atKey cur.scope (key p) }))) ∧
      ((∀ p, admitted cur.scope p → ¬ above p) →
        exec (.listNext c r) s = .next (settle (s1.setPort c { s1.port c with
          response := ⟨.endOfList, r.tag, 0#8, 0#8, 0#8, 0#8, 0#8⟩, result := [] }))))

/-! ## Desk lines and the lamp test -/

/-- R121, R123, R136: a change of a desk line, the debounced TEST press and release, the debounced release of ACK or
SILENCE, and LAMP_TEST. A release gives no effect beyond its own debounced level. The debounced level of a line is due
to change exactly when the part is IN_SERVICE and its candidate level differs from it and has stood for 20 ms, modulo
2^32. -/
def Obligations.DeskLinesAndLampTest : Prop :=
  ∀ (c : Console) (r : Request) (b : Button) (l : Level) (s : State),
    let s1 := frameArrives c s
    let x := s.deskLine c b
    (lineDue s c b l = true ↔ s.mode = .inService ∧ x.candidate = l ∧ x.debounced ≠ l ∧
      20 ≤ (s.time.runClock - x.since).toNat) ∧
    (l ≠ x.line → exec (.deskLineChange c b l) s =
      .next (settle (s.setDeskLine c b { x with line := l, candidate := l, since := s.time.runClock }))) ∧
    (lineDue s c .test .pressed = true → exec (.deskTestPress c) s =
      .next (settle { s.setDeskLine c .test { s.deskLine c .test with debounced := .pressed } with
        lampTest := if s.lampTest = .idle then .pending else s.lampTest })) ∧
    (lineDue s c .test .released = true → exec (.deskTestRelease c) s =
      .next (settle (s.setDeskLine c .test { s.deskLine c .test with debounced := .released }))) ∧
    (b ≠ .test → lineDue s c b .released = true → exec (.deskButtonRelease c b) s =
      .next (settle (s.setDeskLine c b { x with debounced := .released }))) ∧
    (s.mode = .inService →
      exec (.lampTest c r) s = .next (answeredOk c r
        (byte1 (match s1.lampTest with
          | .running _ _ => 2
          | _ => 1))
        (match s1.lampTest with
          | .running n _ => { s1 with lampTest := .running n 16 }
          | _ => { s1 with lampTest := .pending })))

/-! ## The shelf and the first-out groups -/

/-- R57 to R60: SHELVE of a shelvable configured point by its area's owner, the area in no live record. Minutes above
480 count as 480. The entry is placed by its time remaining, after those with the same expiry; a point not on the shelf
ends its episode and becomes SHELVED, and a point already there changes no field. The SHELVE record is offered. That the
value bytes to which 10.4 gives no content are 0 is the model's choice (notes/assumptions/31.md). -/
def Obligations.ShelveTaken : Prop :=
  ∀ (c : Console) (r : Request) (s : State) (p : PointNo),
    let s1 := frameArrives c s
    let q := s1.point p
    let minutes := min 480 (num16 r.b5 r.b6)
    let entry : ShelfEntry :=
      ⟨p, s1.time.runClock + BitVec.ofNat 32 (minutes * 60000), c, s1.operatorNumber c⟩
    let s2 := { s1 with shelf := placeEntry s1 entry (s1.shelf.filter fun e => e.point ≠ p) }
    let done (t : State) := .next (answeredOk c r (byte2 minutes ++ byte1 s2.shelf.length)
      (offer t (journalRecord s1 .shelve .accountable p c 0#6 (s1.operatorNumber c) (valueHalves minutes 0))))
    s.operatorReady c → num16 r.b3 r.b4 = p.val → q.configured = true → num16 r.b5 r.b6 ≠ 0 →
    (s1.area q.area).owner = c → (s1.area q.area).record = none → q.shelvable = true →
    ((∀ e ∈ s1.shelf, e.point ≠ p) → s1.shelf.length < 32 →
      exec (.shelve c r) s = done (unsilence p (s2.setPoint p { q with
        state := .shelved, serial := none, raiseTime := none, ackSet := [], ack := none, quiet := false }))) ∧
    ((∃ e ∈ s1.shelf, e.point = p) → exec (.shelve c r) s = done s2)

/-- R56: where an entry is placed among entries in order of time remaining: every entry before it has no more time
remaining, every entry after it has more, and the others keep their order. -/
def Obligations.ShelfEntriesStandInOrder : Prop :=
  ∀ (s : State) (e : ShelfEntry) (l : List ShelfEntry),
    let left (x : ShelfEntry) : Nat := (x.expiry - s.time.runClock).toNat
    l.Pairwise (fun x y => left x ≤ left y) →
    ∃ before after, l = before ++ after ∧ placeEntry s e l = before ++ e :: after ∧
      (∀ x ∈ before, left x ≤ left e) ∧ (∀ x ∈ after, left e < left x) ∧
      (placeEntry s e l).Pairwise (fun x y => left x ≤ left y)

/-- R61 to R63: UNSHELVE of a point on the shelf by its area's owner, and EXPIRE of the entries at the head of the
shelf whose expiry is reached, in shelf order: the entry leaves the shelf, its record is offered, and the point
returns: RAISED with every effect of a raise where its stored input is ACTIVE, NORMAL otherwise; SHELF is set at the
owner. How point 510's own events are handled is the model's choice (notes/assumptions/18.md). -/
def Obligations.PointsLeaveTheShelf : Prop :=
  ∀ (c : Console) (r : Request) (s : State) (p : PointNo),
    let s1 := frameArrives c s
    let goes (t : State) (p : PointNo) : State :=
      let u := match (t.point p).input with
        | .active => handled p (fun off s => raisePoint off s p) t
        | .normal => toldNormal (t.setPoint p { t.point p with state := .normal }) p
      setFlag .shelf u (t.area (t.point p).area).owner
    let s2 := { s1 with shelf := s1.shelf.filter fun e => e.point ≠ p }
    let s3 := offer s2 (journalRecord s1 .unshelve .accountable p c 0#6 (s1.operatorNumber c) 0#32)
    let runsOut (t : State) (e : ShelfEntry) : State :=
      let t1 := { t with shelf := t.shelf.filter fun x => x.point ≠ e.point }
      goes (offer t1 (journalRecord t .expire .accountable e.point e.console 0#6 e.operator 0#32)) e.point
    (s.operatorReady c → num16 r.b3 r.b4 = p.val → (s1.point p).configured = true →
      (s1.area (s1.point p).area).owner = c → (∃ e ∈ s1.shelf, e.point = p) →
      exec (.unshelve c r) s = .next (answeredOk c r
        (match (s3.point p).input with
          | .active => [1#8]
          | .normal => [0#8]) (goes s3 p))) ∧
    (s.mode = .inService → exec .expire s = .next (settle
      ((s.shelf.takeWhile fun e => decide ((s.time.runClock - e.expiry).toNat < 2147483648)).foldl runsOut s)))

/-- R54: REARM_GROUP of a TRIPPED group by the owner of its first point's area: the group becomes ARMED with no first
point, every member's first mark becomes none, the number of marks cleared is returned, and nothing else changes. R53:
told of a point's step to NORMAL, the first-out unit rearms the point's group in the same way exactly when it is TRIPPED
and every member is NORMAL, and otherwise does nothing. -/
def Obligations.RearmGroupTaken : Prop :=
  ∀ (c : Console) (r : Request) (s : State) (g : GroupNo) (p : PointNo),
    let s1 := frameArrives c s
    let member (g : GroupNo) (x : Point) : Prop := x.configured = true ∧ x.group.val = g.val + 1
    let rearmed (t u : State) : Prop := ∃ v : Vector Point 512,
      (∀ x : PointNo, (member g (t.point x) → v[x] = { t.point x with firstMark := none }) ∧
        (¬ member g (t.point x) → v[x] = t.point x)) ∧
      u = { t with groups := t.groups.set g .armed, points := v }
    (s.operatorReady c → r.b3.toNat = g.val + 1 → s1.groups[g] = .tripped p → (s1.area (s1.point p).area).owner = c →
      ∃ (u : State) (marked : List PointNo), rearmed s1 u ∧ marked.Nodup ∧
        (∀ x, x ∈ marked ↔ member g (s1.point x) ∧ (s1.point x).firstMark ≠ none) ∧
        exec (.rearmGroup c r) s = .next (answeredOk c r (byte2 marked.length) u)) ∧
    ((∀ g', ¬ member g' (s.point p)) → toldNormal s p = s) ∧
    (member g (s.point p) →
      (s.groups[g] ≠ .armed → (∀ x, member g (s.point x) → (s.point x).state = .normal) → rearmed s (toldNormal s p)) ∧
      (s.groups[g] = .armed ∨ (∃ x, member g (s.point x) ∧ (s.point x).state ≠ .normal) → toldNormal s p = s))

/-! ## Horn scopes and takeover -/

/-- R124: what a recomputed horn scope holds; nothing else of a horn, and nothing but the horns, changes. -/
def Obligations.HornScopesFollowTheirRule : Prop :=
  ∀ (s : State) (c : Console),
    (∀ a : AreaNo, ((recomputeScopes s).horn c).scope.getLsbD a = true ↔
      (s.area a).owner = c ∨
      (∃ n : RecordNo, (s.area a).record = some n ∧ (s.record n).phase = .reviewing ∧ (s.record n).inConsole = some c) ∨
      (c = 0 ∧ ∃ t, (s.area a).attendance = .escalated t)) ∧
    { (recomputeScopes s).horn c with scope := (s.horn c).scope } = s.horn c ∧
    { recomputeScopes s with horns := s.horns } = s

/-- R22, R23: TAKEOVER by console 0's supervisor of areas none of which is ATTENDED or in a record: each passes to
console 0, the scopes follow, the TAKEOVER record is offered, attendance is re-evaluated, and HANDOVER is set at console
0 and at each console that lost an area. The number of areas whose owner changed is returned. That the TAKEOVER record
stands before those of the re-evaluation is the model's reading (notes/assumptions/16.md). That the value bytes to which
10.4 gives no content are 0 is the model's choice (notes/assumptions/31.md). -/
def Obligations.TakeoverTaken : Prop :=
  ∀ (r : Request) (s : State),
    let s1 := frameArrives 0 s
    let set := areaSet r.b3 r.b4 r.b5
    let named (a : AreaNo) : Bool := set.getLsbD a
    let lost : List Console := [1, 2, 3].filter fun c => decide (∃ a, named a = true ∧ (s1.area a).owner = c)
    let moved := ((List.finRange 24).filter fun a => named a && (s1.area a).owner != 0).length
    let done (v : Vector Area 24) : State :=
      let s2 := recomputeScopes { s1 with areas := v }
      let s3 := offer s2
        (journalRecord s2 .takeover .accountable 0 0 0#6 (s.operatorNumber 0) (valueWithSet 0 set))
      setFlagAt .handover (0 :: lost) (reevaluateAll s3 ((List.finRange 24).filter named))
    s.supervisorReady → set ≠ 0#24 →
    (∀ a, named a = true → (s1.area a).attendance ≠ .attended ∧ (s1.area a).record = none) →
    ∃ v : Vector Area 24,
      (∀ a : AreaNo, v[a] = if named a then { s1.area a with owner := 0 } else s1.area a) ∧
      exec (.takeover 0 r) s = .next (answeredOk 0 r (byte1 moved) (done v))

/-! ## Shift handover -/

/-- R87, R88: HO_OFFER of areas that the console owns, none in a record, to another console that is incoming in no live
record, while the offering console is outgoing in none: the lowest-numbered FREE record is written afresh, each area
names it, the HO_OFFER record is offered, and HANDOVER is set at both consoles. -/
def Obligations.HandoverOffered : Prop :=
  ∀ (c i : Console) (n : RecordNo) (r : Request) (s : State),
    let s1 := frameArrives c s
    let set := areaSet r.b4 r.b5 r.b6
    let named (a : AreaNo) : Bool := set.getLsbD a
    let h : HoRecord := ⟨.offered, some c, some (s.operatorNumber c), some i, none, set, 0#16, 0#16, .word, 0#16,
      .word, 0#16, false, s1.timing.offerTimeout, false, none⟩
    let done (v : Vector Area 24) : State :=
      let s2 := { s1 with records := s1.records.set n h, areas := v }
      let s3 := offer s2
        (journalRecord s2 .hoOffer .accountable n c 0#6 (s.operatorNumber c) (valueWithSet i set))
      setFlag .handover (setFlag .handover s3 c) i
    s.operatorReady c → r.b3.toNat = i.val → i ≠ c → set ≠ 0#24 →
    (∀ m, (s1.record m).phase ≠ .free → (s1.record m).inConsole ≠ some i ∧ (s1.record m).outConsole ≠ some c) →
    (∀ a, named a = true → (s1.area a).owner = c ∧ (s1.area a).record = none) →
    (s1.record n).phase = .free → (∀ m, m < n → (s1.record m).phase ≠ .free) →
    ∃ v : Vector Area 24,
      (∀ a : AreaNo, v[a] = if named a then { s1.area a with record := some n } else s1.area a) ∧
      exec (.hoOffer c r) s = .next (answeredOk c r (byte1 n ++ byte2 s1.timing.offerTimeout) (done v))

/-- R90, R91: HO_ACCEPT of an OFFERED record by its incoming console, whose operator is qualified for every area of the
record: the record becomes REVIEWING with the review timeout, item 0 presented and the hold judged, the scopes follow,
the HO_ACCEPT record is offered, attendance is re-evaluated, and HANDOVER is set at both parties. The order of the
records is the model's reading (notes/assumptions/16.md), and that the result's 1 means held is its choice
(notes/assumptions/14.md). -/
def Obligations.HandoverAccepted : Prop :=
  ∀ (c o : Console) (n : RecordNo) (r : Request) (s : State),
    let s1 := frameArrives c s
    let h := s1.record n
    let flooded := decide (∃ a : AreaNo, h.areas.getLsbD a = true ∧ (s1.area a).flood = .flood)
    let time := s1.timing.reviewTimeout
    let h1 := { h with
      phase := .reviewing, inOperator := some (s.operatorNumber c), timer := time, held := flooded
      presented := 1#16, confirmed := 0#16 }
    let s2 := recomputeScopes { s1 with records := s1.records.set n h1 }
    let s3 := offer s2 (journalRecord s2 .hoAccept .accountable n c (BitVec.ofNat 6 (time / 256 % 32))
      (s.operatorNumber c) (valueWithSet time h.areas))
    let s4 := reevaluateAll s3 ((List.finRange 24).filter fun a => h.areas.getLsbD a)
    s.operatorReady c → r.b3.toNat = n.val → h.inConsole = some c → h.outConsole = some o → h.phase = .offered →
    (∀ a : AreaNo, h.areas.getLsbD a = true → s1.qualifiedAt c a = true) →
    exec (.hoAccept c r) s = .next (answeredOk c r (byte2 time ++ boolByte flooded)
      (setFlag .handover (setFlag .handover s4 o) c))

/-- R92, R93: HO_DECLINE of an OFFERED record by its incoming console, and HO_WITHDRAW of a live record by its
outgoing console. -/
def Obligations.HandoverDeclinedOrWithdrawn : Prop :=
  ∀ (c : Console) (n : RecordNo) (r : Request) (s : State),
    let s1 := frameArrives c s
    let declined := endRecord s1 n .declined .incoming c (s.operatorNumber c)
    let withdrawn := endRecord s1 n .withdrawn .outgoing c (s.operatorNumber c)
    s.operatorReady c → r.b3.toNat = n.val →
    ((s1.record n).inConsole = some c → (s1.record n).phase = .offered →
      exec (.hoDecline c r) s = .next (answeredOk c r [] declined.state)) ∧
    ((s1.record n).outConsole = some c → (s1.record n).phase ≠ .free →
      exec (.hoWithdraw c r) s = .next (answeredOk c r (byte2 withdrawn.completed) withdrawn.state))

/-- R95, R96, R99: HO_PRESENT, HO_RELEASE and HO_UNRELEASE of a REVIEWING record by its outgoing console, and
HO_CONFIRM, of items that are presented, by its incoming console `i`. That HO_RELEASE returns 1 for a release given and
HO_UNRELEASE 0 for one not given is the model's choice (notes/assumptions/14.md). -/
def Obligations.ReviewIsWorkedThrough : Prop :=
  ∀ (c i : Console) (n : RecordNo) (r : Request) (s : State),
    let s1 := frameArrives c s
    let h := s1.record n
    let put (x : HoRecord) : State := { s1 with records := s1.records.set n x }
    let tell (b : Bool) (t : State) : State := if b then setFlag .handover t i else t
    let mode : Notify := if r.b3.getLsbD 7 then .items else .word
    let items := itemSet r.b4 r.b5
    let hp := { h with
      presented := items ||| 1#16, confirmed := h.confirmed &&& (items ||| 1#16), release := false
      outNotify := mode, outWatch := itemSet r.b6 r.b7 }
    let hc := { h with confirmed := items, inNotify := mode, inWatch := itemSet r.b6 r.b7 }
    s.operatorReady c → h.phase = .reviewing → h.inConsole = some i →
    (r.b3.toNat % 4 = n.val → h.outConsole = some c →
      exec (.hoPresent c r) s = .next (answeredOk c r (itemBytes hp.presented ++ itemBytes hp.confirmed)
        (checklistEvents h hp (tell h.release (put hp))))) ∧
    (r.b3.toNat % 4 = n.val → i = c → items &&& ~~~h.presented = 0#16 →
      exec (.hoConfirm c r) s = .next (answeredOk c r (itemBytes h.presented ++ itemBytes items)
        (checklistEvents h hc (put hc)))) ∧
    (r.b3.toNat = n.val → h.outConsole = some c →
      exec (.hoRelease c r) s = .next (answeredOk c r [1#8] (tell (!h.release) (put { h with release := true }))) ∧
      exec (.hoUnrelease c r) s = .next (answeredOk c r [0#8] (tell h.release (put { h with release := false }))))

/-- R98: at a change of a REVIEWING record's item sets each party is told, by CHECKLIST at its port, if its notify mode
asks for it: WORD where completeness has changed, ITEMS where a watched item has joined or left either set. Nothing
else changes. -/
def Obligations.ChecklistEventsFollowTheNotifyModes : Prop :=
  ∀ (s : State) (was now : HoRecord) (x y : Console),
    let told (m : Notify) (watch : ItemSet) : Prop := match m with
      | .word => ¬ (was.confirmed = was.presented ↔ now.confirmed = now.presented)
      | .items => ∃ k, watch.getLsbD k = true ∧
          (was.presented.getLsbD k ≠ now.presented.getLsbD k ∨ was.confirmed.getLsbD k ≠ now.confirmed.getLsbD k)
    let t := checklistEvents was now s
    now.phase = .reviewing → now.outConsole = some x → now.inConsole = some y →
    { t with ports := s.ports } = s ∧
    ∀ d, { t.port d with flags := (s.port d).flags } = s.port d ∧
      ((d = x ∧ told now.outNotify now.outWatch) ∨ (d = y ∧ told now.inNotify now.inWatch) →
        (t.port d).flags = (s.port d).flags ||| EventFlag.checklist.bit) ∧
      (¬ ((d = x ∧ told now.outNotify now.outWatch) ∨ (d = y ∧ told now.inNotify now.inWatch)) →
        (t.port d).flags = (s.port d).flags)

/-- R101, R105: HO_TAKE of a REVIEWING record by its incoming console, not held, released, with its checklist
complete, its gate clear and its incoming operator signed on; and HO_FORCE by console 0's supervisor: COMMIT of a
REVIEWING record whose incoming operator is signed on and qualified, and CANCEL of a live record. HO_TAKE's checks refuse
in order: the party, the phase, the hold, then NOT_READY with its one-byte record, 1 RELEASE, 2 CHECKLIST and 3 GATE
(R168), then the operator. The split of HO_FORCE into two commands is the table's (notes/assumptions/21.md). -/
def Obligations.HandoverTakenOrForced : Prop :=
  ∀ (c i : Console) (n : RecordNo) (op : Operator) (r : Request) (s : State),
    let s1 := frameArrives c s
    let h := s1.record n
    let named (a : AreaNo) : Prop := h.areas.getLsbD a = true
    let ended (o : HoOutcome) (k : HoCause) := endRecord s1 n o k c (s.operatorNumber c)
    let count (e : RecordEnd) : List Byte := byte1 e.changed ++ byte2 e.completed
    let gate : Prop := ∀ a : AreaNo, named a → (1 ≤ (s1.area a).gate.val → (s1.area a).unack.p1 = 0) ∧
      (2 ≤ (s1.area a).gate.val → (s1.area a).unack.p2 = 0)
    let refuses (st : Status) (record : List Byte) : Prop := exec (.hoTake c r) s = .next (settle (s1.setPort c
      { s1.port c with response := ⟨st, r.tag, record.getD 0 0#8, 0#8, 0#8, 0#8, 0#8⟩, result := record }))
    (s.operatorReady c → r.b3.toNat = n.val →
      (h.inConsole ≠ some c → refuses .noAuthority []) ∧
      (h.inConsole = some c → h.phase ≠ .reviewing → refuses .state []) ∧
      (h.inConsole = some c → h.phase = .reviewing →
        (h.held = true → refuses .held []) ∧
        (h.held = false → h.release = false → refuses .notReady [1#8]) ∧
        (h.held = false → h.release = true → h.confirmed ≠ h.presented → refuses .notReady [2#8]) ∧
        (h.held = false → h.release = true → h.confirmed = h.presented → ¬ gate → refuses .notReady [3#8]) ∧
        (h.held = false → h.release = true → h.confirmed = h.presented → gate →
          h.inOperator ≠ some (s.operatorNumber c) → refuses .notSignedOn []))) ∧
    (s.operatorReady c → r.b3.toNat = n.val → h.inConsole = some c → h.phase = .reviewing → h.held = false →
      h.release = true → h.confirmed = h.presented → gate → h.inOperator = some (s.operatorNumber c) →
      exec (.hoTake c r) s = .next (answeredOk c r (count (ended .committed .take)) (ended .committed .take).state)) ∧
    (s.supervisorReady → c = 0 → r.b3.toNat = n.val → r.b4 = 0#8 → h.phase = .reviewing → h.inConsole = some i →
      s1.operatorAt i = some op → h.inOperator = some op.number →
      (∀ a : AreaNo, named a → s1.qualifiedAt i a = true) →
      exec (.hoForceCommit c r) s = .next (answeredOk c r (count (ended .superseded .force))
        (setFlag .handover (ended .superseded .force).state 0))) ∧
    (s.supervisorReady → c = 0 → r.b3.toNat = n.val → r.b4 = 1#8 → h.phase ≠ .free →
      exec (.hoForceCancel c r) s = .next (answeredOk c r (count (ended .aborted .supervisor))
        (setFlag .handover (ended .aborted .supervisor).state 0)))

/-- R85, R102 to R104: what an end of a record leaves, whatever ends it: its areas name no record and, at a commit, are
owned by the incoming console; the record is FREE and not held, with its outcome and cause, and every other field as it
was; HANDOVER is set at both parties. R6, R102 and R104 step 3: each area of the record has been re-evaluated under its
owner after the end, by the table of R4 (as ReevaluationFollowsTheTable spells it), with PRESENCE at console 0 and at
that owner where that ends its escalation (R117), and no other area's attendance changes; and every horn scope is that
of R124 in the state left (as HornScopesFollowTheirRule spells it). That the confirmed items stay, and the scopes, are
said of states in which an area names a record exactly when it is live and holds the area, which SoundStatesStaySound
keeps. Other areas keep owner and record, and other records keep all but the confirmed items and the hold. R103: of the
record's areas, each RAISED or RETURNED point whose ack set holds the survivor (the incoming party at a commit, the
outgoing party otherwise) completes in the survivor's name, and every ack set is empty afterwards. R109: in a journal
with room their ACK records, in ascending point number, are followed by the HO_END record; between them stands only the
RETURN of point 508, where the re-evaluation ends the last escalation. The order in which a record's end writes is the
model's reading (notes/assumptions/17.md). That the ACK records' override mark has its place in the qualifier, and that
the value bytes to which 10.4 gives no content are 0, are its choices (notes/assumptions/29.md, 31.md). -/
def Obligations.EndOfARecord : Prop :=
  ∀ (s : State) (n : RecordNo) (o : HoOutcome) (k : HoCause) (c x y : Console) (op : Nat),
    let h := s.record n
    let e := endRecord s n o k c op
    let t := e.state
    let named (a : AreaNo) : Bool := h.areas.getLsbD a
    let commits : Prop := o = .committed ∨ o = .superseded
    let survivor : Console × Nat := if o = .committed ∨ o = .superseded then (y, h.inOperator.getD 0)
      else (x, h.outOperator.getD 0)
    let done : List PointNo := (List.finRange 512).filter fun p => decide ((s.point p).configured = true ∧
      named (s.point p).area = true ∧ ((s.point p).state = .raised ∨ (s.point p).state = .returned) ∧
      survivor.1 ∈ (s.point p).ackSet)
    let reached (p : PointNo) : Annunciation := if (s.point p).state = .raised then .standing else .normal
    h.outConsole = some x → h.inConsole = some y →
    (∀ p, (s.point p).configured = true → named (s.point p).area = true → (t.point p).ackSet = []) ∧
    (s.calm (done.length + 2) →
      e.completed = done.length ∧
      (∀ p ∈ done, p ≠ 508 → (t.point p).state = reached p ∧
        (t.point p).ack = some ⟨s.journalClock, survivor.1, survivor.2, false⟩) ∧
      (∀ p, p ∉ done → p ≠ 508 →
        { t.point p with firstMark := (s.point p).firstMark, ackSet := (s.point p).ackSet } = s.point p) ∧
      ∃ l : List JournalRecord, l.length ≤ 1 ∧ (∀ z ∈ l, z.kind = .pointReturn ∧ z.subject = 508#16) ∧
        ((∀ a u, named a = true → (s.area a).attendance ≠ .escalated u) → l = []) ∧
        t.journal.fifo = s.journal.fifo ++ (done.map fun p : PointNo => journalRecord s .ack .accountable p survivor.1 0#6
          survivor.2 (value12 (reached p).code)) ++ l ++ [journalRecord s .hoEnd .accountable n c 0#6 op
          (valueWithSet (o.code * 16 + k.code) h.areas)]) ∧
    (∀ a, (t.area a).record = if named a then none else (s.area a).record) ∧
    (commits → (∀ a, (t.area a).owner = if named a then y else (s.area a).owner) ∧
      e.changed = ((List.finRange 24).filter fun a => named a && (s.area a).owner != y).length) ∧
    (¬ commits → (∀ a, (t.area a).owner = (s.area a).owner) ∧ e.changed = 0) ∧
    { t.record n with confirmed := h.confirmed } =
      { h with phase := .free, held := false, lastOutcome := some (o, k) } ∧
    (s.recordsSound → (t.record n).confirmed = h.confirmed ∧
      ∀ (d : Console) (a : AreaNo), (t.horn d).scope.getLsbD a = true ↔
        (t.area a).owner = d ∨
        (∃ m : RecordNo, (t.area a).record = some m ∧ (t.record m).phase = .reviewing ∧
          (t.record m).inConsole = some d) ∨
        (d = 0 ∧ ∃ u, (t.area a).attendance = .escalated u)) ∧
    (∀ a, named a = false → (t.area a).attendance = (s.area a).attendance) ∧
    (∀ a, named a = true →
      (t.area a).attendance =
        (match (s.area a).attendance, attendanceTest t a with
          | .attended, true => .attended
          | .attended, false => .unattended s.time.runClock
          | .unattended _, true => .attended
          | .unattended u, false => .unattended u
          | .escalated _, true => .attended
          | .escalated u, false => .escalated u) ∧
      ∀ u, (s.area a).attendance = .escalated u → attendanceTest t a = true →
        (t.port 0).flags &&& EventFlag.presence.bit = EventFlag.presence.bit ∧
        (t.port (t.area a).owner).flags &&& EventFlag.presence.bit = EventFlag.presence.bit) ∧
    (∀ m, m ≠ n → { t.record m with confirmed := (s.record m).confirmed, held := (s.record m).held } = s.record m) ∧
    (t.port x).flags &&& EventFlag.handover.bit = EventFlag.handover.bit ∧
    (t.port y).flags &&& EventFlag.handover.bit = EventFlag.handover.bit ∧
    t.roster = s.roster ∧ t.desks = s.desks ∧ t.shelf = s.shelf ∧ t.time = s.time

/-! ## The journal -/

/-- R153, R154: SET_TIME by console 0's supervisor: the offset becomes the value given minus the run clock, so the
journal clock reads that value; the TIME_SET record, offered then, carries the journal clock as it was. -/
def Obligations.SetTimeTaken : Prop :=
  ∀ (r : Request) (s : State),
    let s1 := frameArrives 0 s
    let v : Word32 := word32 r.b3 r.b4 r.b5 r.b6
    let s2 := { s1 with time := { s1.time with offset := v - s1.time.runClock } }
    s.supervisorReady →
    s2.time.runClock + s2.time.offset = v ∧
    exec (.setTime 0 r) s = .next (answeredOk 0 r (byte4 (v - s1.time.runClock))
      (offer s2 ⟨.timeSet, .accountable, v, 0#16, 0, 0#6, BitVec.ofNat 16 (s.operatorNumber 0),
        s1.time.runClock + s1.time.offset⟩))

/-- R155 to R157: a record offered to the FIFO. With no loss pending it joins the tail where its class's limit leaves
room, and is dropped and counted where not. With loss pending it is taken, behind a LOSS record that carries the drop
counts, only where there is room for both; the counters then return to 0. R158, R159: a record that joins clears the
quiet flag and, in STREAMING with no unit in transmission, lets the FIFO's head begin. R157: the drop that makes loss
pending is a change of the loss condition to ACTIVE, and the LOSS placement one to NORMAL; a change sets JOURNAL at
every port and, IN_SERVICE, waits for point 510; in CONFIGURING it is dropped (R26). An offer, once complete, gives
point 510 the changes that wait, the first one first, each an input event with quality GOOD handled whole, its own
records' changes waiting behind it, until none waits. That the changes wait in a list, of which the model gives a
bounded number, enough for any list of up to 300, is its choice (notes/assumptions/18.md), and that a head begun finds
the ready level last carried and waits for a tail byte its choice and its inference (notes/assumptions/12.md, 13.md). -/
def Obligations.OffersFollowTheClassLimits : Prop :=
  ∀ (s : State) (x : JournalRecord),
    let j := s.journal
    let limit : Nat := match x.cls with
      | .routine => 224
      | .accountable => 256
    let loss : JournalRecord := ⟨.loss, .accountable, s.time.runClock + s.time.offset, 0#16, 0, 0#6, 0#16,
      BitVec.ofNat 16 j.dropRoutine ++ BitVec.ofNat 16 j.dropAccountable⟩
    let pending : Prop := 0 < j.dropRoutine ∨ 0 < j.dropAccountable
    let joined (k : Journal) (l : List JournalRecord) : Journal :=
      let k1 := { k with fifo := j.fifo ++ l, quiet := false }
      if j.stream = .streaming ∧ j.unit = none then
        { k1 with
          unit := some .record, bytesSent := 0, unitRate := j.rate
          lineByte := if j.lineByte = .none ∧ j.ready = true then .unit else j.lineByte }
      else k1
    let dropped := { j with
      dropRoutine := if x.cls = .routine then min 65535 (j.dropRoutine + 1) else j.dropRoutine
      dropAccountable := if x.cls = .accountable then min 65535 (j.dropAccountable + 1) else j.dropAccountable }
    let told (k : Journal) (i : Input) : State := setFlagAt .journal [0, 1, 2, 3] { s with journal := { k with
      lossEvents := if s.mode = .inService then j.lossEvents ++ [i] else j.lossEvents } }
    let t := offerRecord s x
    (¬ pending →
      (j.fifo.length < limit → t = { s with journal := joined j [x] }) ∧
      (limit ≤ j.fifo.length → t = told dropped .active)) ∧
    (pending →
      (j.fifo.length + 2 ≤ limit → t = told (joined { j with dropRoutine := 0, dropAccountable := 0 } [loss, x]) .normal) ∧
      (limit < j.fifo.length + 2 → t = { s with journal := dropped })) ∧
    (∀ i, lossChange i s = told j i ∧ ∀ c, ((told j i).port c).flags = (s.port c).flags ||| EventFlag.journal.bit) ∧
    offer s x = settle510 t ∧
    (j.lossEvents = [] → settle510 s = s) ∧
    (∀ (i : Input) (rest : List Input), j.lossEvents = i :: rest → rest.length ≤ 300 →
      settle510 s = settle510
        (pointInput offerRecord { s with journal := { j with lossEvents := rest } } 510 i .good)) ∧
    (j.lossEvents.length ≤ 300 → (settle510 s).journal.lossEvents = [])

/-- R158 to R161: JOURNAL_START from console 0, and JOURNAL_STOP by its supervisor. Entry to STREAMING clears the quiet
flag and lets the record at the FIFO's head begin; a change of stream state is a JOURNAL event at every port. That the
record's first byte waits for a tail byte under way is the model's inference (notes/assumptions/13.md), and that it
finds the ready level last carried is its choice (notes/assumptions/12.md). -/
def Obligations.StreamIsStartedAndStopped : Prop :=
  ∀ (r : Request) (s : State),
    let s1 := frameArrives 0 s
    let j := s1.journal
    let entered := { j with stream := .streaming, quiet := false }
    let first := { entered with
      unit := some .record, bytesSent := 0, unitRate := j.rate
      lineByte := if j.lineByte = .none ∧ j.ready = true then .unit else j.lineByte }
    let toAll (k : Journal) : State := setFlagAt .journal [0, 1, 2, 3] { s1 with journal := k }
    (s.mode = .inService →
      (j.stream = .streaming → exec (.journalStart 0 r) s = .next (answeredOk 0 r [1#8] s1)) ∧
      (j.stream ≠ .streaming → exec (.journalStart 0 r) s = .next (answeredOk 0 r [1#8]
        (toAll (if j.unit = none ∧ j.fifo ≠ [] then first else entered))))) ∧
    (s.supervisorReady →
      (j.stream = .streaming → j.unit = none → exec (.journalStop 0 r) s = .next (answeredOk 0 r [0#8]
        (toAll { j with stream := .stopped }))) ∧
      (j.stream = .streaming → j.unit ≠ none → exec (.journalStop 0 r) s = .next (answeredOk 0 r [2#8]
        (toAll { j with stream := .stopping }))) ∧
      (j.stream ≠ .streaming → exec (.journalStop 0 r) s = .next (answeredOk 0 r (byte1 j.stream.code) s1)))

/-- R162, R163: JOURNAL_CLEAR and JOURNAL_RESET by console 0's supervisor. CLEAR keeps the record in transmission and
counts every other as dropped; RESET empties the FIFO, stops the stream and zeroes the drop counters, and a byte under
way is finished, and is held as the tail byte of notes/assumptions/13.md: the byte of the unit in transmission that the
number of its bytes sent names, or a tail byte still under way. That the routine count of CLEAR takes two bytes is the
model's choice (notes/assumptions/15.md). A change of the loss condition, or of RESET's stream state, is a JOURNAL
event. -/
def Obligations.JournalIsClearedAndReset : Prop :=
  ∀ (r : Request) (s : State),
    let s1 := frameArrives 0 s
    let j := s1.journal
    let gone := if j.unit = some .record then j.fifo.tail else j.fifo
    let number (k : JournalClass) : Nat := (gone.filter fun x => x.cls == k).length
    let cleared := { j with
      fifo := if j.unit = some .record then j.fifo.take 1 else []
      dropRoutine := min 65535 (j.dropRoutine + number .routine)
      dropAccountable := min 65535 (j.dropAccountable + number .accountable) }
    let finished : LineByte := match j.lineByte, j.nextByte with
      | .unit, some b => .tail b
      | .tail b, _ => .tail b
      | _, _ => .none
    let cut := { j with
      fifo := [], dropRoutine := 0, dropAccountable := 0, stream := .stopped, unit := none, bytesSent := 0
      quiet := false, resumeDue := false, lineByte := finished }
    let pending : Prop := 0 < j.dropRoutine ∨ 0 < j.dropAccountable
    let toAll (k : Journal) : State := setFlagAt .journal [0, 1, 2, 3] { s1 with journal := k }
    s.supervisorReady →
    (exec (.journalClear 0 r) s = .next (answeredOk 0 r (byte2 (number .routine) ++ byte2 (number .accountable))
      (if gone ≠ [] ∧ ¬ pending then settle510 (lossChange .active { s1 with journal := cleared })
        else { s1 with journal := cleared }))) ∧
    (exec (.journalReset 0 r) s = .next (answeredOk 0 r
      (byte2 j.fifo.length ++ byte1 (if j.unit = none then 0 else j.bytesSent))
      (if pending then settle510 (lossChange .normal { s1 with journal := cut })
        else if j.stream = .stopped then { s1 with journal := cut } else toAll cut)))

/-- R158, R159: the sender's events: a byte sent, a record sent, the waiting byte, and a FILLER record at a seconds tick
that saw ready asserted. A byte that waits is due to begin at the millisecond tick that sees ready asserted, and at no
other: JOURNAL_READY_RESUME begins it, and the next tick where that has not come, whatever level that tick sees. R163:
the byte that JOURNAL_RESET let finish ends; that the first byte of a unit begun meanwhile waits for its end is the
model's inference (notes/assumptions/13.md). That the byte due is begun by an event of its own, which changes nothing
where none is due, and that a byte's end and a record's end, with no such byte under way, bring in the level of the
ready input alone, are the model's choices (notes/assumptions/6.md, 12.md). That a FILLER is its own event at the tick
is the table's; how the tick leaves it to be made is the model's choice (notes/assumptions/9.md). R151, 10.4: a journal
record is 16 bytes that sum to 0 modulo 256, the sync 0xA7, the kind's code, the time, the subject, the console with the
qualifier, the operator, the value and the check. R158: the byte on the line, or the next where one waits, is the byte
of the unit in transmission, the FIFO's head or the FILLER, that the number of its bytes sent names; R163: or, after
JOURNAL_RESET, the byte that was under way. -/
def Obligations.SenderEvents : Prop :=
  ∀ (ready : Bool) (s : State) (u : JournalUnit),
    let j := s.journal
    let next : LineByte := if ready then .unit else .none
    let left := { j with
      ready := ready, unit := none, bytesSent := 0, lineByte := .none
      fifo := if u = .record then j.fifo.tail else j.fifo }
    let again := { left with unit := some .record, unitRate := j.rate, lineByte := next }
    let filler := journalRecord s .filler .routine 0 0 0#6 0 (valueHalves j.dropRoutine j.dropAccountable)
    (j.unit = some u →
      (j.lineByte = .unit → j.bytesSent < 15 → exec (.journalByteSent ready) s = .next (settle { s with
        journal := { j with ready := ready, bytesSent := j.bytesSent + 1, lineByte := next } })) ∧
      (∀ b, j.lineByte = .tail b → exec (.journalByteSent ready) s = .next (settle { s with
        journal := { j with ready := ready, lineByte := next } })) ∧
      (j.lineByte = .unit → j.bytesSent = 15 →
        (j.stream = .stopping → exec (.journalRecordSent ready) s =
          .next (settle (setFlagAt .journal [0, 1, 2, 3] { s with journal := { left with stream := .stopped } }))) ∧
        (j.stream = .streaming → exec (.journalRecordSent ready) s =
          .next (settle { s with journal := if left.fifo = [] then left else again }))) ∧
      (j.lineByte = .none →
        (j.resumeDue = true → exec .journalReadyResume s =
          .next (settle { s with journal := { j with lineByte := .unit, resumeDue := false } })) ∧
        ∃ t, exec (.millisecondTick ready) s = .next t ∧ t.journal.unit = some u ∧
          t.journal.bytesSent = j.bytesSent ∧ t.journal.lineByte = (if j.resumeDue then .unit else .none) ∧
          t.journal.resumeDue = (ready && !j.resumeDue))) ∧
    (∀ b, j.unit = none → j.lineByte = .tail b → exec (.journalByteSent ready) s =
      .next (settle { s with journal := { j with ready := ready, lineByte := .none } })) ∧
    (j.lineByte = .none ∨ (j.lineByte = .unit ∧ 15 ≤ j.bytesSent) → exec (.journalByteSent ready) s =
      .next (settle { s with journal := { j with ready := ready } })) ∧
    (j.lineByte ≠ .unit ∨ j.bytesSent ≠ 15 → exec (.journalRecordSent ready) s =
      .next (settle { s with journal := { j with ready := ready } })) ∧
    (j.resumeDue = false → exec .journalReadyResume s = .next (settle s)) ∧
    (s.time.fillerDue = true → j.stream = .streaming → j.fifo = [] → j.unit = none → j.quiet = true →
      j.readySeen = true → exec .filler s = .next (settle { s with
        time := { s.time with fillerDue := false }
        journal := { j with
          unit := some (.filler filler), bytesSent := 0, unitRate := j.rate
          lineByte := if j.lineByte = .none then .unit else j.lineByte } })) ∧
    (∀ x : JournalRecord, x.bytes.length = 16 ∧ x.bytes.foldl (· + ·) 0#8 = 0#8 ∧
      x.bytes.take 15 = [0xA7#8, x.kind.code,
        x.time.extractLsb' 24 8, x.time.extractLsb' 16 8, x.time.extractLsb' 8 8, x.time.extractLsb' 0 8,
        x.subject.extractLsb' 8 8, x.subject.extractLsb' 0 8, x.qualifier ++ BitVec.ofNat 2 x.console.val,
        x.operator.extractLsb' 8 8, x.operator.extractLsb' 0 8,
        x.value.extractLsb' 24 8, x.value.extractLsb' 16 8, x.value.extractLsb' 8 8, x.value.extractLsb' 0 8] ∧
      ((u = .record ∧ j.fifo.head? = some x) ∨ u = .filler x → j.unit = some u →
        j.nextByte = x.bytes[j.bytesSent]?)) ∧
    (j.unit = none → j.nextByte = none) ∧
    (j.lineByte = .none → j.lineOut = none) ∧ (j.lineByte = .unit → j.lineOut = j.nextByte) ∧
    (∀ b, j.lineByte = .tail b → j.lineOut = some b) ∧
    ([.raise, .pointReturn, .ack, .ackPartial, .firstOut, .shelve, .unshelve, .expire, .floodOn, .floodOff, .hoOffer,
      .hoAccept, .hoEnd, .signOn, .signOff, .takeover, .absent, .present, .escalate, .unsignedButton, .gap, .linkLost,
      .linkOk, .loss, .timeSet, .restart, .filler] : List JournalKind).map JournalKind.code =
      (List.range 27).map fun n => BitVec.ofNat 8 (n + 1)

/-! ## Configuration -/

/-- R24, R39, R1, R9, R174: CFG_POINT, CFG_AREA and CFG_OPERATOR from console 0 while CONFIGURING, their operands in
range. A point keeps its live fields; an operator written to a slot is signed on nowhere, and a SUPERVISOR holds class
7. The layout of the values returned is the model's reading, and that number 0 returns two bytes of 0 alone its choice
(notes/assumptions/15.md), and that a set bit and a returned 1 mean yes is its choice (notes/assumptions/14.md). -/
def Obligations.TableWrites : Prop :=
  ∀ (r : Request) (s : State),
    let s1 := frameArrives 0 s
    s.mode = .configuring →
    (∀ (p : PointNo) (a : AreaNo) (pr : Priority) (g : Fin 9),
      let q := { s1.point p with
        configured := r.b5.getLsbD 7, area := a, priority := pr, group := g, shelvable := r.b5.getLsbD 6 }
      num16 r.b3 r.b4 = p.val → r.b5.toNat % 32 = a.val → r.b6.toNat / 16 = pr.number → r.b6.toNat % 16 = g.val →
      exec (.cfgPoint 0 r) s = .next (answeredOk 0 r (byte2 p ++ boolByte (r.b5.getLsbD 7) ++ byte1 a ++
        byte1 pr.number ++ byte1 g ++ boolByte (r.b5.getLsbD 6)) (s1.setPoint p q))) ∧
    (∀ (a : AreaNo) (k : Fin 7) (m : JointAck) (g : Fin 3),
      r.b3.toNat = a.val → r.b4.toNat = k.val → r.b5.toNat = m.code → r.b6.toNat = g.val →
      exec (.cfgArea 0 r) s = .next (answeredOk 0 r [r.b4, r.b5, r.b6]
        { s1 with areas := s1.areas.set a { s1.area a with reqClass := k, jointAck := m, gate := g } })) ∧
    (∀ (k : SlotNo) (role : Role),
      let n := num16 r.b4 r.b5
      let classes := if role = .supervisor then r.b7 ||| 0x80#8 else r.b7
      r.b3.toNat = k.val → r.b6.toNat = role.code → (r.b7.getLsbD 7 = true → role = .supervisor) →
      (n = 0 → exec (.cfgOperator 0 r) s = .next (answeredOk 0 r [0#8, 0#8]
        { s1 with roster := s1.roster.set k none })) ∧
      (1 ≤ n → n ≤ 9999 → (∀ (i : SlotNo) (op : Operator), s.roster[i] = some op → op.number = n → i = k) →
        exec (.cfgOperator 0 r) s = .next (answeredOk 0 r (byte2 n ++ [r.b6] ++ [classes])
          { s1 with roster := s1.roster.set k (some ⟨n, role, classes, none⟩) })))

/-- R68, R139, R140, R158, R175, R176: CFG_TIMING, CFG_LINKS, CFG_FLOOD, CFG_BOARD and CFG_CLOCK from console 0 while
CONFIGURING, each with a selector and values in range. The layout of the values returned is the model's reading
(notes/assumptions/15.md). -/
def Obligations.SettingWrites : Prop :=
  ∀ (r : Request) (s : State),
    let s1 := frameArrives 0 s
    let v := num16 r.b4 r.b5
    let w := num16 r.b6 r.b7
    let m := s1.timing
    let pat := s1.pattern
    let digits (l : List Byte) : List Nat := l.flatMap fun b => [b.toNat / 16, b.toNat % 16]
    let timed (x : Timing) := exec (.cfgTiming 0 r) s = .next (answeredOk 0 r (byte2 v) { s1 with timing := x })
    let linked (x : State) := exec (.cfgLinks 0 r) s = .next (answeredOk 0 r (byte2 v) x)
    let weighed (x : PerPriority) := exec (.cfgFlood 0 r) s =
      .next (answeredOk 0 r (byte2 (min 4095 v)) { s1 with weights := x })
    let drawn (l : List Byte) (x : Pattern) := exec (.cfgBoard 0 r) s = .next (answeredOk 0 r l { s1 with pattern := x })
    s.mode = .configuring →
    (r.b3 = 0#8 → 30 ≤ v → v ≤ 1800 → timed { m with offerTimeout := v }) ∧
    (r.b3 = 1#8 → 60 ≤ v → v ≤ 7200 → timed { m with reviewTimeout := v }) ∧
    (r.b3 = 2#8 → 1 ≤ v → v ≤ 20 → timed { m with absenceHalfSeconds := v }) ∧
    (r.b3 = 3#8 → 10 ≤ v → v ≤ 600 → timed { m with escalationDelay := v }) ∧
    (r.b3 = 0#8 → v ≤ 3 → linked (if v = m.fieldBaud then s1 else { s1 with
      timing := { m with fieldBaud := v }, receiver := { s1.receiver with framing := .searching [] } })) ∧
    (r.b3 = 1#8 → 1 ≤ v → v ≤ 10 → linked { s1 with timing := { m with linkLossTime := v } }) ∧
    (r.b3 = 2#8 → v ≤ 4 → linked { s1 with journal := { s1.journal with rate := v } }) ∧
    (∀ a : AreaNo, r.b3.toNat = a.val → 1 ≤ v → v ≤ 32767 → w ≤ 32767 →
      exec (.cfgFlood 0 r) s = .next (answeredOk 0 r (byte2 v ++ byte2 w)
        { s1 with areas := s1.areas.set a { s1.area a with tOn := v, tOffWritten := w } })) ∧
    (r.b3 = 24#8 → weighed { s1.weights with p1 := min 4095 v }) ∧
    (r.b3 = 25#8 → weighed { s1.weights with p2 := min 4095 v }) ∧
    (r.b3 = 26#8 → weighed { s1.weights with p3 := min 4095 v }) ∧
    (r.b3 = 27#8 → weighed { s1.weights with p4 := min 4095 v }) ∧
    (r.b3 = 28#8 → 1 ≤ v → v ≤ 10 → exec (.cfgFlood 0 r) s =
      .next (answeredOk 0 r (byte1 v) { s1 with decayShift := v })) ∧
    (∀ k : PatternKind, r.b3 = 0#8 → r.b4.toNat = k.code → r.b5.toNat ∈ [1, 2, 4, 8] → 1 ≤ r.b6.toNat →
      r.b6.toNat ≤ 8 → drawn [r.b4, r.b5, r.b6] { pat with kind := k, bars := r.b5.toNat, width := r.b6.toNat }) ∧
    (r.b3 = 1#8 → 1 ≤ r.b4.toNat → r.b4.toNat ≤ 12 → (∀ d ∈ digits [r.b5, r.b6, r.b7], d ≤ 12) →
      ∃ x : Vector (Fin 13) 12,
        (∀ k : Fin 12, (x[k]).val = if k.val < 6 then (digits [r.b5, r.b6, r.b7]).getD k.val 0 else (pat.codes[k]).val) ∧
        drawn (r.b4 :: (digits [r.b5, r.b6, r.b7]).map (BitVec.ofNat 8)) { pat with length := r.b4.toNat, codes := x }) ∧
    (r.b3 = 2#8 → (∀ d ∈ digits [r.b4, r.b5, r.b6], d ≤ 12) →
      ∃ x : Vector (Fin 13) 12,
        (∀ k : Fin 12, (x[k]).val =
          if k.val < 6 then (pat.codes[k]).val else (digits [r.b4, r.b5, r.b6]).getD (k.val - 6) 0) ∧
        drawn ((digits [r.b4, r.b5, r.b6]).map (BitVec.ofNat 8)) { pat with codes := x }) ∧
    (num16 r.b3 r.b4 ≠ 0 → exec (.cfgClock 0 r) s = .next (answeredOk 0 r (byte2 (num16 r.b3 r.b4))
      { s1 with time := { s1.time with refDivide := num16 r.b3 r.b4, divideCount := 0 } }))

/-! ## The sequence -/

/-- R30, R31, R51, R52, R63, R71 to R73, R79, R97, R98: what a raise of a configured point does, from NORMAL, RETURNED
or the shelf, in a journal with room: a new episode under the serial counter; the weight on the area's load, the onset
of its flood and the hold that it begins in the area's REVIEWING record; the quiet mark; the first mark of its group;
item 0 of the area's live record, with CHECKLIST for the parties whose notify mode asks for it; NEW_ALARM where it is
not quiet; and its records, in order. That the RAISE record carries no quality is the model's choice
(notes/assumptions/28.md). That the value bytes to which 10.4 gives no content are 0 is the model's choice
(notes/assumptions/31.md). -/
def Obligations.RaiseHandsOn : Prop :=
  ∀ (s : State) (p : PointNo),
    let q := s.point p
    let a := q.area
    let e := s.area a
    let load := min 32767 (e.load + s.weights.get q.priority)
    let floods := e.flood = .normal ∧ e.tOn ≤ load
    let quiet := decide ((e.flood = .flood ∨ floods) ∧ (q.priority = .p3 ∨ q.priority = .p4))
    let trips : Prop := ∃ g : GroupNo, memberGroup q = some g ∧ s.groups[g] = .armed
    let mark : Option FirstMark := match memberGroup q with
      | none => q.firstMark
      | some g => match s.groups[g] with
        | .armed => some .first
        | .tripped _ => some (q.firstMark.getD .follower)
    let stamp (k : JournalKind) (c : JournalClass) (n : Nat) (b : BitVec 6) (v : Word32) : JournalRecord :=
      ⟨k, c, s.time.runClock + s.time.offset, BitVec.ofNat 16 n, e.owner, b, BitVec.ofNat 16 (s.operatorNumber e.owner), v⟩
    let markBits : BitVec 2 := match mark with
      | none => 0#2
      | some .first => 1#2
      | some .follower => 2#2
    let asks (m : Notify) (watch : ItemSet) (h : HoRecord) : Prop := match m with
      | .word => ¬ (h.confirmed = h.presented ↔ h.confirmed &&& ~~~1#16 = h.presented)
      | .items => watch.getLsbD 0 = true ∧ h.confirmed.getLsbD 0 = true
    let told (d : Console) : Prop := ∃ n, e.record = some n ∧ (s.record n).phase = .reviewing ∧
      (((s.record n).outConsole = some d ∧ asks (s.record n).outNotify (s.record n).outWatch (s.record n)) ∨
        ((s.record n).inConsole = some d ∧ asks (s.record n).inNotify (s.record n).inWatch (s.record n)))
    let t := raisePoint offer s p
    s.calm 3 → q.configured = true → q.state = .normal ∨ q.state = .returned ∨ q.state = .shelved →
    t.point p = { q with
      state := .raised, serial := some s.serialNext, raiseTime := some (s.time.runClock + s.time.offset), ackSet := []
      ack := none, quiet := quiet, firstMark := mark } ∧
    (∀ p', p' ≠ p → t.point p' = s.point p') ∧
    t.serialNext = (if s.serialNext < 4294967295 then s.serialNext + 1 else s.serialNext) ∧
    (t.area a).load = load ∧ ((t.area a).flood = .flood ↔ e.flood = .flood ∨ floods) ∧
    (t.area a).unack.get q.priority = e.unack.get q.priority + (if q.state = .returned then 0 else 1) ∧
    (t.area a).shelved = e.shelved - (if q.state = .shelved then 1 else 0) ∧ (t.area a).standing = e.standing ∧
    (∀ b, b ≠ a → t.area b = s.area b) ∧
    (∀ g : GroupNo, t.groups[g] = if memberGroup q = some g ∧ s.groups[g] = .armed then .tripped p else s.groups[g]) ∧
    (∀ n, e.record ≠ some n → t.record n = s.record n) ∧
    (∀ n, e.record = some n →
      { t.record n with confirmed := (s.record n).confirmed, held := (s.record n).held } = s.record n ∧
      ((s.record n).phase ≠ .free → (t.record n).confirmed = (s.record n).confirmed &&& ~~~1#16) ∧
      ((s.record n).phase = .reviewing → floods → ((t.record n).held = true ↔
        ∃ b : AreaNo, (s.record n).areas.getLsbD b = true ∧ (t.area b).flood = .flood)) ∧
      ((s.record n).phase ≠ .reviewing ∨ ¬ floods → (t.record n).held = (s.record n).held)) ∧
    (∀ d, ((t.port d).flags.getLsbD 3 = true ↔ (s.port d).flags.getLsbD 3 = true ∨ told d) ∧
      (∀ k, k ≠ 0 → k ≠ 3 → k ≠ 5 → (t.port d).flags.getLsbD k = (s.port d).flags.getLsbD k) ∧
      ((t.port d).flags.getLsbD 0 = true ↔
        (s.port d).flags.getLsbD 0 = true ∨ (quiet = false ∧ (s.horn d).scope.getLsbD a = true)) ∧
      ((t.port d).flags.getLsbD 5 = true ↔
        (s.port d).flags.getLsbD 5 = true ∨ (floods ∧ (s.horn d).scope.getLsbD a = true)) ∧
      (t.horn d).silenced = (s.horn d).silenced.filter (· ≠ p) ∧
      (t.horn d).chirp = if quiet = false ∧ q.priority = .p4 ∧ (s.horn d).scope.getLsbD a = true
        then some (s.time.runClock + 500#32) else (s.horn d).chirp) ∧
    ∃ l1 l2 : List JournalRecord,
      (floods → l1 = [stamp .floodOn .routine a 0#6 (BitVec.ofNat 16 load ++ BitVec.ofNat 16 e.tOn)]) ∧
      (¬ floods → l1 = []) ∧
      (∀ g, memberGroup q = some g → trips →
        l2 = [stamp .firstOut .accountable (g.val + 1) 0#6 (BitVec.ofNat 16 p ++ BitVec.ofNat 8 a ++ 0#8)]) ∧
      (¬ trips → l2 = []) ∧
      t.journal.fifo = s.journal.fifo ++ l1 ++ l2 ++
        [stamp .raise (if q.priority = .p1 then .accountable else .routine) p
          (BitVec.ofBool quiet ++ markBits ++ BitVec.ofNat 3 q.priority.number)
          (BitVec.ofNat 8 a ++ BitVec.ofNat 24 s.serialNext)]

/-- R27, R29, R32, R33: a point-input event, in a journal with room: an unconfigured point takes nothing; a report of
the level a point holds changes its quality alone; ACTIVE raises a point that is NORMAL or RETURNED; NORMAL makes a
RAISED point RETURNED and a STANDING point NORMAL, with a RETURN record; SHELVED, or STANDING going ACTIVE, takes the
level alone. R53: a step to NORMAL that leaves every member of the point's TRIPPED group NORMAL rearms the group. R39:
at a return the area's not-GOOD count follows the quality, and its standing count falls by one from STANDING; every
other point but for a cleared first mark, every other area, every port and flag, and all else of the state stay. That
the value bytes to which 10.4 gives no content are 0 is the model's choice (notes/assumptions/31.md). -/
def Obligations.PointInputSteps : Prop :=
  ∀ (s : State) (p : PointNo) (i : Input) (ql : Quality),
    let q := s.point p
    let t := pointInput offer s p i ql
    let entry (left : Nat) : JournalRecord := ⟨.pointReturn, .routine, s.time.runClock + s.time.offset,
      BitVec.ofNat 16 p, (s.area q.area).owner, 0#6, BitVec.ofNat 16 (s.operatorNumber (s.area q.area).owner),
      BitVec.ofNat 8 left ++ 0#24⟩
    let member (g : GroupNo) (x : Point) : Prop := x.configured = true ∧ x.group.val = g.val + 1
    let rearms (g : GroupNo) : Prop := member g q ∧ s.groups[g] ≠ .armed ∧
      ∀ p', p' ≠ p → member g (s.point p') → (s.point p').state = .normal
    let area : Area := s.area q.area
    let judged : Area := { area with notGood :=
      if q.quality ≠ .good ∧ ql = .good then area.notGood - 1
      else if q.quality = .good ∧ ql ≠ .good then area.notGood + 1 else area.notGood }
    s.calm 1 →
    (q.configured = false → t = s) ∧
    (q.configured = true →
      (i = q.input → t = s.setPoint p { q with quality := ql }) ∧
      (i = .active → q.input = .normal → q.state = .normal ∨ q.state = .returned →
        t = raisePoint offer (s.setPoint p { q with quality := ql, input := .active }) p) ∧
      (i = .normal → q.input = .active → q.state = .raised →
        t.point p = { q with quality := ql, input := .normal, state := .returned } ∧
        t.journal.fifo = s.journal.fifo ++ [entry 1] ∧
        (∀ d, t.horn d = { s.horn d with silenced := (s.horn d).silenced.filter (· ≠ p) }) ∧
        (∀ p', p' ≠ p → t.point p' = s.point p') ∧ t.area q.area = judged ∧
        (∀ a, a ≠ q.area → t.area a = s.area a) ∧
        { t with points := s.points, areas := s.areas, horns := s.horns, journal := s.journal } = s) ∧
      (i = .normal → q.input = .active → q.state = .standing →
        { t.point p with firstMark := q.firstMark } =
          { q with quality := ql, input := .normal, state := .normal, serial := none, quiet := false } ∧
        (∀ g : GroupNo, (rearms g → t.groups[g] = .armed ∧ ∀ x, member g (s.point x) → (t.point x).firstMark = none) ∧
          (¬ rearms g → t.groups[g] = s.groups[g] ∧
            ∀ x, member g (s.point x) → (t.point x).firstMark = (s.point x).firstMark)) ∧
        (∀ x, (∀ g, ¬ member g (s.point x)) → (t.point x).firstMark = (s.point x).firstMark) ∧
        t.journal.fifo = s.journal.fifo ++ [entry 2] ∧
        (∀ p', p' ≠ p → { t.point p' with firstMark := (s.point p').firstMark } = s.point p') ∧
        t.area q.area = { judged with standing := area.standing - 1 } ∧ (∀ a, a ≠ q.area → t.area a = s.area a) ∧
        { t with points := s.points, areas := s.areas, groups := s.groups, journal := s.journal } = s) ∧
      (i ≠ q.input → q.state = .shelved ∨ (i = .active ∧ q.state = .standing) →
        t = s.setPoint p { q with quality := ql, input := i }))

/-- R75, R76: the decay step of an area, in a journal with room: its load loses a share of itself, rounded up, and
an area in FLOOD whose load has fallen below its applied T_off is NORMAL, with a FLOOD_OFF record, FLOOD at the
consoles whose scope holds it, and the hold of its REVIEWING record judged. -/
def Obligations.DecayStepOfAnArea : Prop :=
  ∀ (s : State) (a : AreaNo),
    let e := s.area a
    let load := e.load - (e.load + 2 ^ s.decayShift - 1) / 2 ^ s.decayShift
    let ends := e.flood = .flood ∧ load < e.tOffApplied
    let t := decayArea s a
    s.calm 1 →
    (¬ ends → t = { s with areas := s.areas.set a { e with load := load } }) ∧
    (ends →
      t.area a = { e with load := load, flood := .normal } ∧ (∀ b, b ≠ a → t.area b = s.area b) ∧
      t.journal.fifo = s.journal.fifo ++ [⟨.floodOff, .routine, s.time.runClock + s.time.offset, BitVec.ofNat 16 a,
        e.owner, 0#6, BitVec.ofNat 16 (s.operatorNumber e.owner),
        BitVec.ofNat 16 load ++ BitVec.ofNat 16 e.tOffApplied⟩] ∧
      (∀ d, (t.port d).flags = if (s.horn d).scope.getLsbD a then (s.port d).flags ||| EventFlag.flood.bit
        else (s.port d).flags) ∧
      (∀ n, e.record = some n → (s.record n).phase = .reviewing → ((t.record n).held = true ↔
        ∃ b : AreaNo, (s.record n).areas.getLsbD b = true ∧ (t.area b).flood = .flood)))

/-! ## The field link -/

/-- R140, R142, R143: a byte, and a line error, at the field receiver. LOCKED gathers seven bytes from a sync byte and
takes a run whose sum is 0; any fault starts the search. SEARCHING tries every run of seven bytes that a sync byte
begins, and counts nothing. -/
def Obligations.FramingTakesEachByte : Prop :=
  ∀ (s : State) (b : Byte) (l : List Byte),
    let k := s.receiver.counts
    let put (f : Framing) (k : LinkCounts) : State := { s with receiver := { s.receiver with framing := f, counts := k } }
    let framing := { k with framing := min 65535 (k.framing + 1) }
    let check := { k with check := min 65535 (k.check + 1) }
    let sum (l : List Byte) : Byte := l.foldl (· + ·) 0#8
    let resync (l : List Byte) : List Byte := l.dropWhile (· ≠ 0x5C#8)
    let taken (run : List Byte) : State := handleRecord (put (.locked []) k) (run.getD 1 0#8) (run.getD 2 0#8)
      (run.getD 3 0#8) (run.getD 4 0#8) (run.getD 5 0#8)
    let goes (t : State) := exec (.fieldByte b) s = .next (settle t)
    (s.receiver.framing = .locked l →
      (l = [] → b = 0x5C#8 → goes (put (.locked [b]) k)) ∧
      (l = [] → b ≠ 0x5C#8 → goes (put (.searching []) framing)) ∧
      (1 ≤ l.length → l.length ≤ 5 → goes (put (.locked (l ++ [b])) k)) ∧
      (l.length = 6 → sum (l ++ [b]) = 0#8 → goes (taken (l ++ [b]))) ∧
      (l.length = 6 → sum (l ++ [b]) ≠ 0#8 → goes (put (.searching (resync (l.tail ++ [b]))) check)) ∧
      exec .fieldLineError s = .next (settle (put (.searching []) framing))) ∧
    (s.receiver.framing = .searching l →
      (l = [] → b = 0x5C#8 → goes (put (.searching [b]) k)) ∧
      (l = [] → b ≠ 0x5C#8 → goes s) ∧
      (1 ≤ l.length → l.length ≤ 5 → goes (put (.searching (l ++ [b])) k)) ∧
      (l.length = 6 → sum (l ++ [b]) = 0#8 → goes (taken (l ++ [b]))) ∧
      (l.length = 6 → sum (l ++ [b]) ≠ 0#8 → goes (put (.searching (resync (l.tail ++ [b]))) k)) ∧
      exec .fieldLineError s = .next (settle (put (.searching []) k)))

/-- R144 to R146, R149, R150: the seven bytes of a valid record at a receiver that holds none: IN_SERVICE with the link
OK, the link timer restarts, the sequence test passes or counts a gap with a GAP record, and a CHANGE or REFRESH of a
configured point of 0 to 507 is a point-input event; IDLE does no more, and an unknown kind, a point above 507 or an
unconfigured point counts. R148: with the link LOST, and so no expected sequence, the link is recovered first: the
LINK_OK record with the time lost, LINK at every port, and point 511 NORMAL; the sequence makes no gap. In CONFIGURING
the record goes no further. That the event is the arrival of the record's seven bytes is the model's reading
(notes/assumptions/22.md). That the value bytes to which 10.4 gives no content are 0 is the model's choice
(notes/assumptions/31.md). -/
def Obligations.FieldRecordTaken : Prop :=
  ∀ (kind hi lo state seq : Byte) (s : State) (d : Option Word32),
    let k := s.receiver.counts
    let x := s.receiver
    let now := s.time.runClock
    let s1 (k : LinkCounts) : State := { s with receiver := { x with
      framing := .locked [], lastValid := now, link := .ok (some (now + BitVec.ofNat 32 (s.timing.linkLossTime * 1000)))
      expected := some (seq + 1#8), counts := k } }
    let after : State := match x.expected with
      | none => s1 k
      | some e => if e = seq then s1 k else
        let n := min 65535 (k.gap + 1)
        offer (s1 { k with gap := n })
          ⟨.gap, .routine, now + s.time.offset, BitVec.ofNat 16 n, 0, 0#6, 0#16, e ++ seq ++ 0#16⟩
    let unknown (t : State) : State := { t with receiver := { t.receiver with
      counts := { t.receiver.counts with unknown := min 65535 (t.receiver.counts.unknown + 1) } } }
    let goes (t : State) := exec (.fieldRecord kind hi lo state seq) s = .next (settle t)
    let reports (after : State) : Prop :=
      (kind = 0#8 → goes after) ∧
      (3 ≤ kind.toNat → goes (unknown after)) ∧
      (kind = 1#8 ∨ kind = 2#8 →
        (508 ≤ num16 hi lo → goes (unknown after)) ∧
        (∀ p : PointNo, num16 hi lo = p.val → p.val ≤ 507 →
          ((s.point p).configured = false → goes (unknown after)) ∧
          ((s.point p).configured = true → goes (pointInput offer after p
            (if state.getLsbD 0 then .active else .normal) (if state.getLsbD 1 then .suspect else .good)))))
    x.framing = .locked [] ∨ x.framing = .searching [] →
    (s.mode = .configuring → goes { s with receiver := { x with framing := .locked [] } }) ∧
    (s.mode = .inService → x.link = .ok d → reports after) ∧
    (s.mode = .inService → ∀ since, x.link = .lost since → x.expected = none →
      let found : State := { s with receiver := { x with
        framing := .locked [], lastValid := now, link := .ok (some (now + BitVec.ofNat 32 (s.timing.linkLossTime * 1000))) } }
      let told := systemPoint (setFlagAt .link [0, 1, 2, 3]
        (offer found ⟨.linkOk, .routine, now + s.time.offset, 0#16, 0, 0#6, 0#16, now - since⟩)) 511 .normal
      reports { told with receiver := { told.receiver with expected := some (seq + 1#8) } })

/-- R147: the loss of the link at its deadline: the search starts afresh with no expected sequence; every configured
point of 0 to 507 is STALE, which its area's not-GOOD count follows; the LINK_LOST record is offered, LINK is set at
every port, and point 511 is told (what `systemPoint` does, ServiceStatesChange says). That LINK_LOST changes nothing
where the deadline is not reached is the model's choice (notes/assumptions/6.md). -/
def Obligations.LinkIsLostAtItsDeadline : Prop :=
  ∀ (s : State) (d : Word32),
    let stale (p : PointNo) : Prop := p.val < 508 ∧ (s.point p).configured = true
    let made : Nat := ((List.finRange 512).filter fun p => decide (stale p ∧ (s.point p).quality ≠ .stale)).length
    let good (a : AreaNo) : Nat := ((List.finRange 512).filter fun p =>
      decide (stale p ∧ (s.point p).quality = .good ∧ (s.point p).area = a)).length
    s.mode = .inService → s.receiver.link = .ok (some d) →
    (2147483648 ≤ (s.time.runClock - d).toNat → exec .linkLost s = .next (settle s)) ∧
    ((s.time.runClock - d).toNat < 2147483648 → ∃ (v : Vector Point 512) (w : Vector Area 24),
      (∀ p : PointNo, (stale p → v[p] = { s.point p with quality := .stale }) ∧ (¬ stale p → v[p] = s.point p)) ∧
      (∀ a : AreaNo, w[a] = { s.area a with notGood := (s.area a).notGood + good a }) ∧
      let s1 := { s with
        points := v, areas := w
        receiver := { s.receiver with framing := .searching [], expected := none, link := .lost s.time.runClock } }
      let s2 := offer s1 ⟨.linkLost, .accountable, s.time.runClock + s.time.offset, BitVec.ofNat 16 made, 0, 0#6, 0#16,
        s.receiver.lastValid⟩
      exec .linkLost s = .next (settle (systemPoint (setFlagAt .link [0, 1, 2, 3] s2) 511 .active)))

/-! ## Service -/

/-- R11, R25, R31, R42, R50, R67, R84, R110, R141, R166: the restart live state at a request of console c; what it does
not name (settings, configuration, board, desk lines, flags, masks and the journal) is kept. -/
def Obligations.RestartLiveState : Prop :=
  ∀ (c : Console) (s : State),
    let t := restartLive c s
    let now := s.time.runClock
    { t with
      points := s.points, serialNext := s.serialNext, areas := s.areas, roster := s.roster, desks := s.desks
      groups := s.groups, shelf := s.shelf, records := s.records, horns := s.horns, receiver := s.receiver
      ports := s.ports } = s ∧
    t.serialNext = 1 ∧ t.shelf = [] ∧ (∀ g : GroupNo, t.groups[g] = .armed) ∧
    (∀ p, t.point p = { s.point p with
      input := .normal, quality := .stale, state := .normal, ackSet := [], serial := none, raiseTime := none, ack := none
      firstMark := none, quiet := false }) ∧
    (∀ a, t.area a = { s.area a with
      attendance := .unattended now, record := none, unack := ⟨0, 0, 0, 0⟩, standing := 0, shelved := 0, load := 0
      flood := .normal
      notGood := (s.points.toList.filter fun q => q.configured && q.area == a).length }) ∧
    (∀ (k : SlotNo) (op : Operator), s.roster[k] = some op → t.roster[k] = some { op with console := none }) ∧
    (∀ k : SlotNo, s.roster[k] = none → t.roster[k] = none) ∧
    (∀ d, (t.desk d).signedOn = none ∧ (t.desk d).lastHeard = now ∧ (t.desk d).presence = .present
      (if s.mode = .inService then some (now + BitVec.ofNat 32 (s.timing.absenceHalfSeconds * 500)) else none)) ∧
    (∀ n, t.record n = State.reset.record n) ∧
    (∀ d, (t.horn d).silenced = [] ∧ (t.horn d).chirp = none ∧
      ∀ a : AreaNo, (t.horn d).scope.getLsbD a = true ↔ (s.area a).owner = d) ∧
    (t.receiver.framing = s.receiver.framing ∧ t.receiver.expected = none ∧ t.receiver.lastValid = now ∧
      t.receiver.counts = ⟨0, 0, 0, 0⟩ ∧ t.receiver.link = .ok
        (if s.mode = .inService then some (now + BitVec.ofNat 32 (s.timing.linkLossTime * 1000)) else none)) ∧
    (∀ d, (t.port d).flags = (s.port d).flags ∧ (t.port d).mask = (s.port d).mask ∧
      (t.port d).cursor = (match (s.port d).cursor with
        | .closed => .closed
        | .beforeFirst x => .beforeFirst x
        | .atKey x _ => .beforeFirst x) ∧
      (d = c → (t.port d).response = (s.port d).response ∧ (t.port d).result = (s.port d).result) ∧
      (d ≠ c → (t.port d).response = ⟨.idle, 0#8, 0#8, 0#8, 0#8, 0#8, 0#8⟩ ∧ (t.port d).result = []))

/-- R26, R69, R121, R132, R165, R177, R178, R180: COMMIT_CONFIG from console 0 while CONFIGURING, RESTART and
RECONFIGURE by its supervisor, and POWER_ON: the settings each makes, the restart live state, the RESTART record, the
system points brought to their sources' conditions, and the board frame that starts. The RESTART record is taken or
dropped by R155 alone. Points 508 to 511 are given, in that order and with quality GOOD, ACTIVE while an area is
ESCALATED, a console is ABSENT, loss is pending and the link is LOST, and NORMAL otherwise; in CONFIGURING an event of a
system point is dropped. While reset is asserted the horns, the common alarm line and the interrupt lines are released
and the journal line is idle; that the assertion and the release are one event is the model's choice
(notes/assumptions/25.md). The moment of the first frame's image, the order of point 510's events, and what POWER_ON
keeps from outside the part, are the model's reading (notes/assumptions/18.md, 19.md, 20.md, 25.md). That a desk line's
candidate-since time at RECONFIGURE and POWER_ON is the run clock of that event, and not of the line's last change, is
its choice (notes/assumptions/30.md). -/
def Obligations.ServiceStatesChange : Prop :=
  ∀ (r : Request) (s : State),
    let s1 := frameArrives 0 s
    let op := s.operatorNumber 0
    let afresh (now : Word32) (x : DeskLine) : DeskLine := ⟨x.line, .released, x.line, now⟩
    let lines (f : DeskLine → DeskLine) (v : Vector DeskLines 4) : Prop :=
      ∀ d : Console, v[d] = ⟨f (s1.lines[d]).ack, f (s1.lines[d]).silence, f (s1.lines[d]).test⟩
    (s.mode = .configuring → ∃ (v : Vector Area 24) (w : Vector DeskLines 4),
      let clamped := ((List.finRange 24).filter fun a => (v[a]).tOffApplied != (v[a]).tOffWritten).length
      (∀ a : AreaNo, v[a] = { s1.area a with tOffApplied :=
        if (s1.area a).tOffWritten < (s1.area a).tOn then (s1.area a).tOffWritten else (s1.area a).tOn - 1 }) ∧
      lines (fun x => { x with since := s1.time.runClock }) w ∧
      exec (.commitConfig 0 r) s = .next (answeredOk 0 r
        (byte1 clamped ++ byte2 (s1.points.toList.filter (·.configured)).length)
        (startFrame (bringSystemPoints (restartRecord
          (restartLive 0 { s1 with areas := v, lines := w, mode := .inService }) .commitConfig op))))) ∧
    (s.supervisorReady →
      exec (.restart 0 r) s = .next (answeredOk 0 r []
        (bringSystemPoints (restartRecord (restartLive 0 s1) .restart op))) ∧
      ∃ w : Vector DeskLines 4, lines (afresh s1.time.runClock) w ∧
        exec (.reconfigure 0 r) s = .next (answeredOk 0 r [] (startBlankFrame (restartRecord
          (restartLive 0 { s1 with lines := w, mode := .configuring, lampTest := .idle }) .reconfigure op)))) ∧
    (∃ w : Vector DeskLines 4, lines (afresh 0#32) w ∧
      exec .powerOn s = .next (settle { State.reset with
        pending := s.pending, lines := w, journal := { State.reset.journal with ready := s.journal.ready }
        board := { State.reset.board with chain := s.board.chain, lamps := s.board.lamps } })) ∧
    ((∀ d, ((resetAsserted s).horn d).out = false ∧ ((resetAsserted s).port d).irq = false) ∧
      (resetAsserted s).commonAlarm = false ∧ (resetAsserted s).journal.lineByte = .none) ∧
    (∀ (e : RestartEvent) (k : Nat),
      let j := s.journal
      let x : JournalRecord := ⟨.restart, .accountable, s.time.runClock + s.time.offset,
        (match e with | .commitConfig => 0#16 | .restart => 1#16 | .reconfigure => 2#16), 0, 0#6, BitVec.ofNat 16 k,
        BitVec.ofNat 16 j.dropRoutine ++ BitVec.ofNat 16 j.dropAccountable⟩
      j.lossEvents = [] →
      (j.fifo.length < 256 → restartRecord s e k = { s with journal := j.accept x }) ∧
      (256 ≤ j.fifo.length → 0 < j.dropRoutine ∨ 0 < j.dropAccountable → restartRecord s e k =
        { s with journal := { j with dropAccountable := min 65535 (j.dropAccountable + 1) } }) ∧
      (256 ≤ j.fifo.length → j.dropRoutine = 0 → j.dropAccountable = 0 → restartRecord s e k =
        settle510 (lossChange .active { s with journal := { j with dropAccountable := 1 } }))) ∧
    (∀ (p : PointNo) (i : Input),
      (s.mode = .configuring → systemPoint s p i = s) ∧
      (s.mode = .inService → p ≠ 510 → systemPoint s p i = pointInput offer s p i .good) ∧
      (s.mode = .inService → systemPoint s 510 i = settle510 (pointInput offerRecord s 510 i .good))) ∧
    (∃ i508 i509 i510 i511 : Input,
      let told := systemPoint (systemPoint s 508 i508) 509 i509
      (i508 = .active ↔ ∃ a u, (s.area a).attendance = .escalated u) ∧
      (i509 = .active ↔ ∃ d, s.presentAt d = false) ∧
      (i510 = .active ↔ 0 < told.journal.dropRoutine ∨ 0 < told.journal.dropAccountable) ∧
      (i511 = .active ↔ ∃ u, s.receiver.link = .lost u) ∧
      bringSystemPoints s = systemPoint (systemPoint told 510 i510) 511 i511) ∧
    (startBlankFrame s = { s with board := { s.board with
      scanner := .blanking, count := 0, frameDue := false, words := Vector.replicate 32 ⟨false, false, false, false⟩ } }) ∧
    (s.lampTest = .idle → ∃ v : Vector LampWord 32, (∀ n : Fin 32, v[n] = lampWord (tileCode s n) s.slots.slot) ∧
      startFrame s = { s with board := { s.board with scanner := .scanning, count := 0, frameDue := false, words := v } })

/-! ## Timers -/

/-- R127, R128, R132, R176: a millisecond tick steps the run clock, the count within the second, the count within the slot
and, while a frame is under way, the count within the board frame, whose end falls due at 35 ms; at the end of each line
period of 5 ms but the latch line, the line's 8 words have passed into the chain of drivers. That the chain stays as it
was until then and takes the 8 words together is the model's reading of R132 (DEDUCED, notes/assumptions/10.md). R158:
the tick sees the level of the ready input, and a byte that waits is due where it is asserted. It does so after whatever
the last tick left due (DESIGN CHOICE, notes/assumptions/7.md); SLOT_BOUNDARY steps the slot where the count has
returned to 0; CHIRP_END stops a chirp timer at its deadline. -/
def Obligations.TickSlotAndChirp : Prop :=
  ∀ (ready : Bool) (c : Console) (d : Word32) (s : State),
    (s.countsInRange → ∃ t, exec (.millisecondTick ready) s = .next t ∧
      t.time = { s.time with
        runClock := s.time.runClock + 1#32, milli := (s.time.milli + 1) % 1000, divideCount := 0
        secondsDue := decide (s.time.milli = 999), fillerDue := decide (s.time.milli = 999), rest := none } ∧
      t.slots = ⟨if s.slots.boundaryDue then (s.slots.slot + 1) % 16 else s.slots.slot, (s.slots.count + 1) % 125,
        decide (s.slots.count = 124)⟩ ∧
      t.journal.ready = ready ∧ t.journal.readySeen = ready ∧
      (t.journal.resumeDue = true ↔ ready = true ∧ t.journal.unit ≠ none ∧ t.journal.lineByte = .none) ∧
      (s.board.frameDue = false → s.board.scanner = .stopped →
        t.board = { s.board with data := t.board.data, latch := t.board.latch }) ∧
      (s.board.frameDue = false → s.board.scanner ≠ .stopped →
        let n := s.board.count
        t.board = { s.board with
          count := (n + 1) % 35, frameDue := decide (n = 34), chain := t.board.chain
          data := t.board.data, latch := t.board.latch } ∧
        (n % 5 ≠ 4 ∨ 30 ≤ n → t.board.chain = s.board.chain) ∧
        (n % 5 = 4 → n < 30 → ∀ near : Fin 32, t.board.chain[near] =
          if 8 ≤ near.val then s.board.chain.toList.getD (near.val - 8) .blank
          else if n < 10 then .blank
          else s.board.words.toList.getD (8 * (5 - n / 5) + near.val) .blank))) ∧
    (s.slots.boundaryDue = true → exec .slotBoundary s =
      .next (settle { s with slots := ⟨(s.slots.slot + 1) % 16, s.slots.count, false⟩ })) ∧
    ((s.horn c).chirp = some d → (s.time.runClock - d).toNat < 2147483648 → exec (.chirpEnd c) s =
      .next (settle (s.setHorn c { s.horn c with chirp := none })))

/-- R80, R89, R107, R159: a seconds tick IN_SERVICE decays every area in ascending order and counts, in ascending order,
every live record that is OFFERED, or REVIEWING and not held, in the order of the two that the tick was given. The counts
stop at a record whose timer the count would bring to 0. HO_LAPSE makes that count, ends the record LAPSED in its
outgoing party's name, and the tick then goes on to the records after it; a record that no longer counts keeps its timer,
and one whose timer was set afresh is reduced. The sender's own step clears its quiet flag where it is busy and sets it
where it is idle, unless a FILLER is to begin. That the tick is given its order, that HO_LAPSE makes the count that
brings a timer to 0, and that the sender's step comes last, are the model's choices (notes/assumptions/8.md, 9.md). -/
def Obligations.SecondsTickAndLapse : Prop :=
  ∀ (first : Bool) (s : State) (n : RecordNo) (v : Vector HoRecord 4) (lo : Nat),
    let s1 := { s with time := { s.time with secondsDue := false } }
    let decays (t : State) : State := (List.finRange 24).foldl decayArea t
    let counts (h : HoRecord) : Prop := h.phase = .offered ∨ (h.phase = .reviewing ∧ h.held = false)
    let down (h : HoRecord) : HoRecord := { h with timer := h.timer - 1 }
    let records (lo : Nat) : List RecordNo := (List.finRange 4).filter fun m => decide (lo ≤ m.val)
    let counted (hi : Nat) : Prop := ∀ m : RecordNo,
      (lo ≤ m.val → m.val < hi → counts (s.record m) → 2 ≤ (s.record m).timer ∧ v[m] = down (s.record m)) ∧
      (m.val < lo ∨ hi ≤ m.val ∨ ¬ counts (s.record m) → v[m] = s.record m)
    let stands (x : Option TickRest) : State := { s with records := v, time := { s.time with rest := x } }
    let h := s.record n
    let goesOn (t : State) (last : Bool) : Prop :=
      exec .hoLapse s = .next (settle (countRecords last (records (n.val + 1)) t))
    (counted 4 → countRecords first (records lo) s = if first then decays (stands none) else stands none) ∧
    (lo ≤ n.val → counted n.val → counts h → h.timer ≤ 1 →
      countRecords first (records lo) s = stands (some ⟨n, first⟩)) ∧
    (s.time.secondsDue = true → s.mode = .inService → exec (.secondsTick first) s =
      .next (settle (senderStep (countRecords first (records 0) (if first then s1 else decays s1))))) ∧
    (s.time.secondsDue = true → s.mode = .configuring → exec (.secondsTick first) s = .next (settle (senderStep s1))) ∧
    (∀ last, s.time.rest = some ⟨n, last⟩ →
      (¬ counts h → goesOn s last) ∧
      (counts h → 2 ≤ h.timer → goesOn (s.setRecord n (down h)) last) ∧
      (counts h → h.timer = 1 → goesOn (endRecord (s.setRecord n (down h)) n .lapsed
        (if h.phase = .offered then .offerTimeout else .reviewTimeout) (h.outConsole.getD 0) (h.outOperator.getD 0)).state
        last)) ∧
    (s.time.fillerDue = true →
      let j := s.journal
      let due (k : Journal) : State := { s with journal := k, time := { s.time with fillerDue := false } }
      (j.fifo ≠ [] ∨ j.unit ≠ none → senderStep s = due { j with quiet := false }) ∧
      (j.fifo = [] → j.unit = none →
        (j.stream ≠ .streaming → senderStep s = due j) ∧
        (j.stream = .streaming → j.quiet = false ∨ j.readySeen = false → senderStep s = due { j with quiet := true }) ∧
        (j.stream = .streaming → j.quiet = true → j.readySeen = true → senderStep s = s)))

/-- R112: CONSOLE_ABSENT, at the deadline of the lowest-numbered PRESENT console that has reached it; and R116:
ESCALATE, at the escalation deadline of the lowest-numbered UNATTENDED area that has reached it. What `systemPoint` does,
ServiceStatesChange says. -/
def Obligations.AbsenceAndEscalation : Prop :=
  ∀ (s : State),
    let now := s.time.runClock
    let past (d : Word32) : Prop := (now - d).toNat < 2147483648
    let overdue (c : Console) : Prop := ∃ d, (s.desk c).presence = .present (some d) ∧ past d
    let left (a : AreaNo) (since : Word32) : Prop := (s.area a).attendance = .unattended since ∧
      past (since + BitVec.ofNat 32 (s.timing.escalationDelay * 1000))
    s.mode = .inService →
    (∀ c : Console, overdue c → (∀ d, d < c → ¬ overdue d) →
      let s1 := s.setDesk c { s.desk c with presence := .absent now }
      let s2 := offer s1 (journalRecord s1 .absent .accountable c c 0#6 (s.operatorNumber c) (s.desk c).lastHeard)
      let s3 := setFlagAt .presence ((List.finRange 4).filter (· ≠ c)) s2
      let s4 := reevaluateAll s3 ((List.finRange 24).filter fun a => (s3.area a).owner == c || s3.incomingIn c a)
      ((∀ d, s.presentAt d = true) → exec .consoleAbsent s = .next (settle (systemPoint s4 509 .active))) ∧
      ((∃ d, s.presentAt d = false) → exec .consoleAbsent s = .next (settle s4))) ∧
    (∀ (a : AreaNo) (since : Word32), left a since → (∀ b, b < a → ∀ u, ¬ left b u) →
      let o := (s.area a).owner
      let reason : BitVec 2 := if s.presentAt o = false then 0#2 else if s.nobodyAt o then 1#2 else 2#2
      let s1 := recomputeScopes (s.setArea a { s.area a with attendance := .escalated since })
      let s2 := offer s1
        (journalRecord s1 .escalate .accountable a o (0#4 ++ reason) (s.operatorNumber o) since)
      let s3 := setFlag .presence (setFlag .presence s2 0) o
      ((∀ b u, (s.area b).attendance ≠ .escalated u) → exec .escalate s = .next (settle (systemPoint s3 508 .active))) ∧
      ((∃ b u, (s.area b).attendance = .escalated u) → exec .escalate s = .next (settle s3)))

/-- R132, R133, R136: the end of a board frame: the lamps take the words that the chain of drivers holds, which are the
frame's 32 words once its lines are sent, and while the board is scanned the next frame starts, with the live image or
the test image as the lamp test has it, in the slot then in force; the blank frame's end stops the scanner. That a slot
boundary due at the same tick is taken first, and that the latch falls at the frame's end, is the model's reading
(notes/assumptions/10.md). R131: the lamp word of a tile code. R134, R135: the tile codes of areas and groups. R137,
R138: the codes of a test image. -/
def Obligations.BoardFrameEnds : Prop :=
  ∀ (s : State),
    let s0 := if s.slots.boundaryDue then
      { s with slots := ⟨(s.slots.slot + 1) % 16, s.slots.count, false⟩ } else s
    let held : Prop := ∃ d : Console, (s.lines[d]).test.debounced = .pressed
    let image (test : Option Nat) (v : Vector LampWord 32) : Prop := ∀ n : Fin 32,
      v[n] = lampWord (match test with
        | none => tileCode s0 n
        | some k => testCode s.pattern k (n.val % 8)) s0.slots.slot
    let starts (test : Option Nat) (x : LampTest) : Prop := ∃ v : Vector LampWord 32, image test v ∧
      exec .boardFrame s = .next (settle { s0 with
        lampTest := x
        board := { s.board with scanner := .scanning, count := 0, frameDue := false, words := v, lamps := s.board.chain } })
    (s.board.frameDue = true →
      (s.board.scanner ≠ .stopped → s.board.chainSound → ∀ n : Fin 32, s.board.chain[n] = s.board.words[n]) ∧
      (s.board.scanner = .scanning →
        (s.lampTest = .idle → starts none .idle) ∧
        (s.lampTest = .pending → starts (some 0) (.running 1 15)) ∧
        (∀ k owed, s.lampTest = .running k owed →
          (owed = 0 → ¬ held → starts none .idle) ∧
          (0 < owed ∨ held → starts (some k) (.running ((k + 1) % 16) (owed - 1))))) ∧
      (s.board.scanner = .blanking → exec .boardFrame s = .next (settle { s0 with
        board := { s.board with scanner := .stopped, frameDue := false, lamps := s.board.chain } }))) ∧
    (∀ code slot : Nat, code ≤ 12 →
      let lit : Prop := code % 3 = 1 ∨ (code % 3 = 2 ∧ slot % 4 < 2) ∨ (code % 3 = 0 ∧ slot < 8)
      (code = 0 ∨ ¬ lit → lampWord code slot = ⟨false, false, false, false⟩) ∧
      (1 ≤ code → lit →
        (code ≤ 3 → lampWord code slot = ⟨true, false, false, false⟩) ∧
        (4 ≤ code → code ≤ 6 → lampWord code slot = ⟨false, true, false, false⟩) ∧
        (7 ≤ code → code ≤ 9 → lampWord code slot = ⟨false, false, true, false⟩) ∧
        (10 ≤ code → lampWord code slot = ⟨false, false, false, true⟩))) ∧
    (∀ (n : Fin 32) (a : AreaNo), n.val = a.val →
      let holds (st : Annunciation) : Prop := ∃ p, (s.point p).configured = true ∧ (s.point p).area = a ∧
        (s.point p).state = st
      let urgent (st : Annunciation) : Prop := ∃ p, (s.point p).configured = true ∧ (s.point p).area = a ∧
        (s.point p).state = st ∧ ((s.point p).priority = .p1 ∨ (s.point p).priority = .p2)
      let escalated : Prop := ∃ u, (s.area a).attendance = .escalated u
      (urgent .raised → tileCode s n = 2) ∧
      (¬ urgent .raised → holds .raised → tileCode s n = 5) ∧
      (¬ holds .raised →
        (urgent .returned → tileCode s n = 3) ∧
        (¬ urgent .returned → holds .returned → tileCode s n = 6) ∧
        (¬ holds .returned →
          (urgent .standing → tileCode s n = 1) ∧
          (¬ urgent .standing → holds .standing → tileCode s n = 4) ∧
          (¬ holds .standing →
            (escalated → tileCode s n = 8) ∧
            (¬ escalated → (s.area a).notGood ≠ 0 → tileCode s n = 7) ∧
            (¬ escalated → (s.area a).notGood = 0 → (s.area a).shelved ≠ 0 → tileCode s n = 10) ∧
            (¬ escalated → (s.area a).notGood = 0 → (s.area a).shelved = 0 → tileCode s n = 0))))) ∧
    (∀ (n : Fin 32) (g : GroupNo), n.val = 24 + g.val →
      (s.groups[g] = .armed → tileCode s n = 0) ∧
      (∀ p, s.groups[g] = .tripped p → tileCode s n =
        if (s.point p).state = .raised ∨ (s.point p).state = .returned then 2 else 1)) ∧
    (∀ (x : Pattern) (frame position : Nat), position < 8 →
      (x.kind = .bars → 1 ≤ x.width →
        (∀ k, k < x.bars → k * x.width ≤ position → position < k * x.width + x.width →
          testCode x frame position = [1, 4, 7, 10].getD ((k + frame / 4) % 4) 0) ∧
        (x.bars * x.width ≤ position → testCode x frame position = 0)) ∧
      (x.kind = .fixed → 1 ≤ x.length → x.length ≤ 12 →
        testCode x frame position = (x.codes.toList.map (·.val)).getD (position % x.length) 0))

/-! ## What holds of every step -/

/-- R119, R127, R131, R132, R170: after every command each horn, each interrupt line, the common alarm line and the
board's data and latch outputs stand as the state then held asks, whatever stood before; a step keeps this. That each
follows at the end of an event is the model's choice (notes/assumptions/24.md); that the data output holds a line
period's bits as a list, and the latch output is driven from 30 ms to 35 ms, is its reading (notes/assumptions/10.md).
The journal line (SenderEvents), the console data outputs (EveryFrameIsRead) and the board clock, which is out of the
model, are not spoken of here. -/
def Obligations.PinsFollowEveryStep : Prop :=
  (∀ (i : Instr) (s t : State), exec i s = .next t → t.pinsAgree) ∧
  (∀ s t : State, s.pinsAgree → step s = .next t → t.pinsAgree)

/-- R3, R56, R67, R94, R127, R132, R149, R155, R156, R176: every step keeps the FIFO's budget, the ranges of the drop
counters, the link counters, the loads and the counts of the time base, the slots and the board frame, the board's words
where its chain of drivers has them, a shelf of at most 32 entries, one for each SHELVED point and for no other, every
record's checklist sound, and the areas naming exactly the live records that hold them. That the chain holds only whole
line periods' words between their ends is the model's reading (DEDUCED, notes/assumptions/10.md). -/
def Obligations.SoundStatesStaySound : Prop :=
  ∀ s t : State, step s = .next t →
    (s.journal.withinBudget → t.journal.withinBudget) ∧
    (s.journal.countersInRange → t.journal.countersInRange) ∧
    (s.receiver.counts.inRange → t.receiver.counts.inRange) ∧
    (s.loadsInRange → t.loadsInRange) ∧
    (s.countsInRange → t.countsInRange) ∧
    (s.board.chainSound → t.board.chainSound) ∧
    (s.shelfSound → t.shelfSound) ∧
    (s.checklistsSound → t.checklistsSound) ∧
    (s.recordsSound → t.recordsSound)

/-- R7, R39: every step keeps every area's seven counts equal to the numbers of its configured points. -/
def Obligations.CountsStayExact : Prop :=
  ∀ s t : State, s.countsExact → step s = .next t → t.countsExact

/-- The reset state has every invariant that the steps keep. What the manual gives no value for at reset (the ready input,
the lamps: notes/assumptions/3.md and 4.md) has no part in them. -/
def Obligations.ResetIsSound : Prop :=
  State.reset.pinsAgree ∧ State.reset.journal.withinBudget ∧ State.reset.journal.countersInRange ∧
  State.reset.receiver.counts.inRange ∧ State.reset.loadsInRange ∧ State.reset.countsInRange ∧
  State.reset.board.chainSound ∧
  State.reset.shelfSound ∧ State.reset.checklistsSound ∧ State.reset.recordsSound ∧ State.reset.countsExact

/-- R155, R169: a flag set at a port stays set until a CLEAR_FLAGS of that port names it, its PORT_RESET, or POWER_ON;
and the records in the FIFO stay, in their order, until JOURNAL_CLEAR, JOURNAL_RESET or POWER_ON, but for the one at
the head that has been sent. -/
def Obligations.FlagsAndRecordsStay : Prop :=
  ∀ (i : Instr) (s t : State) (d : Console), exec i s = .next t → i ≠ .powerOn →
    (∀ r, i = .clearFlags d r → (s.port d).flags &&& ~~~flagSet r.b3 r.b4 &&& (t.port d).flags =
      (s.port d).flags &&& ~~~flagSet r.b3 r.b4) ∧
    ((∀ r, i ≠ .clearFlags d r ∧ i ≠ .portReset d r) →
      (s.port d).flags &&& (t.port d).flags = (s.port d).flags) ∧
    ((∀ c r, i ≠ .journalClear c r ∧ i ≠ .journalReset c r) → (∀ b, i ≠ .journalRecordSent b) →
      s.journal.fifo <+: t.journal.fifo) ∧
    (∀ b, i = .journalRecordSent b → t.journal.fifo = s.journal.fifo ∨ t.journal.fifo = s.journal.fifo.tail)

/-- R2, R24, R68, R139, R153, R174, R175, R176: which commands change what: an area's owner, HO_TAKE, HO_FORCE with
COMMIT and TAKEOVER; the run clock, the millisecond tick; the offset, SET_TIME; the device state, COMMIT_CONFIG and
RECONFIGURE; POWER_ON besides. IN_SERVICE, the configuration of the part stays as it is until POWER_ON. -/
def Obligations.OnlyNamedCommandsChangeThese : Prop :=
  ∀ (i : Instr) (s t : State), i.wellFormed = true → exec i s = .next t → i ≠ .powerOn →
    ((∀ c r, i ≠ .hoTake c r ∧ i ≠ .hoForceCommit c r ∧ i ≠ .takeover c r) → ∀ a, (t.area a).owner = (s.area a).owner) ∧
    ((∀ b, i ≠ .millisecondTick b) → t.time.runClock = s.time.runClock) ∧
    ((∀ c r, i ≠ .setTime c r) → t.time.offset = s.time.offset) ∧
    ((∀ c r, i ≠ .commitConfig c r ∧ i ≠ .reconfigure c r) → t.mode = s.mode) ∧
    (s.mode = .inService →
      (∀ p, (t.point p).cfg = (s.point p).cfg) ∧ (∀ a, (t.area a).cfg = (s.area a).cfg) ∧ t.timing = s.timing ∧
      t.weights = s.weights ∧ t.decayShift = s.decayShift ∧ t.pattern = s.pattern ∧
      t.time.refDivide = s.time.refDivide ∧ t.journal.rate = s.journal.rate ∧
      ∀ k : SlotNo, (t.roster[k]).map Operator.signedOff = (s.roster[k]).map Operator.signedOff)
end

