-- ==== Sys2Proof/Laws/State.lean ====
section
/-! SUPPORT. One lemma for each field and each update of the state by a named writer: what the writer leaves alone, and
what a reader reads after it. All are simp lemmas, so that no later proof unfolds a record update. -/

namespace Sys2Proof.Machine

variable (s : State)

/-! ### setPort -/

@[simp] theorem State.setPort_pending (c : Console) (x : Port) : (s.setPort c x).pending = s.pending := rfl
@[simp] theorem State.setPort_mode (c : Console) (x : Port) : (s.setPort c x).mode = s.mode := rfl
@[simp] theorem State.setPort_time (c : Console) (x : Port) : (s.setPort c x).time = s.time := rfl
@[simp] theorem State.setPort_timing (c : Console) (x : Port) : (s.setPort c x).timing = s.timing := rfl
@[simp] theorem State.setPort_points (c : Console) (x : Port) : (s.setPort c x).points = s.points := rfl
@[simp] theorem State.setPort_serialNext (c : Console) (x : Port) : (s.setPort c x).serialNext = s.serialNext := rfl
@[simp] theorem State.setPort_areas (c : Console) (x : Port) : (s.setPort c x).areas = s.areas := rfl
@[simp] theorem State.setPort_weights (c : Console) (x : Port) : (s.setPort c x).weights = s.weights := rfl
@[simp] theorem State.setPort_decayShift (c : Console) (x : Port) : (s.setPort c x).decayShift = s.decayShift := rfl
@[simp] theorem State.setPort_roster (c : Console) (x : Port) : (s.setPort c x).roster = s.roster := rfl
@[simp] theorem State.setPort_desks (c : Console) (x : Port) : (s.setPort c x).desks = s.desks := rfl
@[simp] theorem State.setPort_lines (c : Console) (x : Port) : (s.setPort c x).lines = s.lines := rfl
@[simp] theorem State.setPort_groups (c : Console) (x : Port) : (s.setPort c x).groups = s.groups := rfl
@[simp] theorem State.setPort_shelf (c : Console) (x : Port) : (s.setPort c x).shelf = s.shelf := rfl
@[simp] theorem State.setPort_records (c : Console) (x : Port) : (s.setPort c x).records = s.records := rfl
@[simp] theorem State.setPort_horns (c : Console) (x : Port) : (s.setPort c x).horns = s.horns := rfl
@[simp] theorem State.setPort_slots (c : Console) (x : Port) : (s.setPort c x).slots = s.slots := rfl
@[simp] theorem State.setPort_board (c : Console) (x : Port) : (s.setPort c x).board = s.board := rfl
@[simp] theorem State.setPort_lampTest (c : Console) (x : Port) : (s.setPort c x).lampTest = s.lampTest := rfl
@[simp] theorem State.setPort_pattern (c : Console) (x : Port) : (s.setPort c x).pattern = s.pattern := rfl
@[simp] theorem State.setPort_receiver (c : Console) (x : Port) : (s.setPort c x).receiver = s.receiver := rfl
@[simp] theorem State.setPort_journal (c : Console) (x : Port) : (s.setPort c x).journal = s.journal := rfl
@[simp] theorem State.setPort_commonAlarm (c : Console) (x : Port) : (s.setPort c x).commonAlarm = s.commonAlarm := rfl

/-! ### setArea -/

@[simp] theorem State.setArea_pending (a : AreaNo) (x : Area) : (s.setArea a x).pending = s.pending := rfl
@[simp] theorem State.setArea_mode (a : AreaNo) (x : Area) : (s.setArea a x).mode = s.mode := rfl
@[simp] theorem State.setArea_time (a : AreaNo) (x : Area) : (s.setArea a x).time = s.time := rfl
@[simp] theorem State.setArea_timing (a : AreaNo) (x : Area) : (s.setArea a x).timing = s.timing := rfl
@[simp] theorem State.setArea_points (a : AreaNo) (x : Area) : (s.setArea a x).points = s.points := rfl
@[simp] theorem State.setArea_serialNext (a : AreaNo) (x : Area) : (s.setArea a x).serialNext = s.serialNext := rfl
@[simp] theorem State.setArea_weights (a : AreaNo) (x : Area) : (s.setArea a x).weights = s.weights := rfl
@[simp] theorem State.setArea_decayShift (a : AreaNo) (x : Area) : (s.setArea a x).decayShift = s.decayShift := rfl
@[simp] theorem State.setArea_roster (a : AreaNo) (x : Area) : (s.setArea a x).roster = s.roster := rfl
@[simp] theorem State.setArea_desks (a : AreaNo) (x : Area) : (s.setArea a x).desks = s.desks := rfl
@[simp] theorem State.setArea_lines (a : AreaNo) (x : Area) : (s.setArea a x).lines = s.lines := rfl
@[simp] theorem State.setArea_groups (a : AreaNo) (x : Area) : (s.setArea a x).groups = s.groups := rfl
@[simp] theorem State.setArea_shelf (a : AreaNo) (x : Area) : (s.setArea a x).shelf = s.shelf := rfl
@[simp] theorem State.setArea_records (a : AreaNo) (x : Area) : (s.setArea a x).records = s.records := rfl
@[simp] theorem State.setArea_horns (a : AreaNo) (x : Area) : (s.setArea a x).horns = s.horns := rfl
@[simp] theorem State.setArea_slots (a : AreaNo) (x : Area) : (s.setArea a x).slots = s.slots := rfl
@[simp] theorem State.setArea_board (a : AreaNo) (x : Area) : (s.setArea a x).board = s.board := rfl
@[simp] theorem State.setArea_lampTest (a : AreaNo) (x : Area) : (s.setArea a x).lampTest = s.lampTest := rfl
@[simp] theorem State.setArea_pattern (a : AreaNo) (x : Area) : (s.setArea a x).pattern = s.pattern := rfl
@[simp] theorem State.setArea_receiver (a : AreaNo) (x : Area) : (s.setArea a x).receiver = s.receiver := rfl
@[simp] theorem State.setArea_journal (a : AreaNo) (x : Area) : (s.setArea a x).journal = s.journal := rfl
@[simp] theorem State.setArea_ports (a : AreaNo) (x : Area) : (s.setArea a x).ports = s.ports := rfl
@[simp] theorem State.setArea_commonAlarm (a : AreaNo) (x : Area) : (s.setArea a x).commonAlarm = s.commonAlarm := rfl

/-! ### setRecord -/

@[simp] theorem State.setRecord_pending (r : RecordNo) (x : HoRecord) : (s.setRecord r x).pending = s.pending := rfl
@[simp] theorem State.setRecord_mode (r : RecordNo) (x : HoRecord) : (s.setRecord r x).mode = s.mode := rfl
@[simp] theorem State.setRecord_time (r : RecordNo) (x : HoRecord) : (s.setRecord r x).time = s.time := rfl
@[simp] theorem State.setRecord_timing (r : RecordNo) (x : HoRecord) : (s.setRecord r x).timing = s.timing := rfl
@[simp] theorem State.setRecord_points (r : RecordNo) (x : HoRecord) : (s.setRecord r x).points = s.points := rfl
@[simp] theorem State.setRecord_serialNext (r : RecordNo) (x : HoRecord) : (s.setRecord r x).serialNext = s.serialNext := rfl
@[simp] theorem State.setRecord_areas (r : RecordNo) (x : HoRecord) : (s.setRecord r x).areas = s.areas := rfl
@[simp] theorem State.setRecord_weights (r : RecordNo) (x : HoRecord) : (s.setRecord r x).weights = s.weights := rfl
@[simp] theorem State.setRecord_decayShift (r : RecordNo) (x : HoRecord) : (s.setRecord r x).decayShift = s.decayShift := rfl
@[simp] theorem State.setRecord_roster (r : RecordNo) (x : HoRecord) : (s.setRecord r x).roster = s.roster := rfl
@[simp] theorem State.setRecord_desks (r : RecordNo) (x : HoRecord) : (s.setRecord r x).desks = s.desks := rfl
@[simp] theorem State.setRecord_lines (r : RecordNo) (x : HoRecord) : (s.setRecord r x).lines = s.lines := rfl
@[simp] theorem State.setRecord_groups (r : RecordNo) (x : HoRecord) : (s.setRecord r x).groups = s.groups := rfl
@[simp] theorem State.setRecord_shelf (r : RecordNo) (x : HoRecord) : (s.setRecord r x).shelf = s.shelf := rfl
@[simp] theorem State.setRecord_horns (r : RecordNo) (x : HoRecord) : (s.setRecord r x).horns = s.horns := rfl
@[simp] theorem State.setRecord_slots (r : RecordNo) (x : HoRecord) : (s.setRecord r x).slots = s.slots := rfl
@[simp] theorem State.setRecord_board (r : RecordNo) (x : HoRecord) : (s.setRecord r x).board = s.board := rfl
@[simp] theorem State.setRecord_lampTest (r : RecordNo) (x : HoRecord) : (s.setRecord r x).lampTest = s.lampTest := rfl
@[simp] theorem State.setRecord_pattern (r : RecordNo) (x : HoRecord) : (s.setRecord r x).pattern = s.pattern := rfl
@[simp] theorem State.setRecord_receiver (r : RecordNo) (x : HoRecord) : (s.setRecord r x).receiver = s.receiver := rfl
@[simp] theorem State.setRecord_journal (r : RecordNo) (x : HoRecord) : (s.setRecord r x).journal = s.journal := rfl
@[simp] theorem State.setRecord_ports (r : RecordNo) (x : HoRecord) : (s.setRecord r x).ports = s.ports := rfl
@[simp] theorem State.setRecord_commonAlarm (r : RecordNo) (x : HoRecord) : (s.setRecord r x).commonAlarm = s.commonAlarm := rfl

/-! ### setDesk -/

@[simp] theorem State.setDesk_pending (c : Console) (x : Desk) : (s.setDesk c x).pending = s.pending := rfl
@[simp] theorem State.setDesk_mode (c : Console) (x : Desk) : (s.setDesk c x).mode = s.mode := rfl
@[simp] theorem State.setDesk_time (c : Console) (x : Desk) : (s.setDesk c x).time = s.time := rfl
@[simp] theorem State.setDesk_timing (c : Console) (x : Desk) : (s.setDesk c x).timing = s.timing := rfl
@[simp] theorem State.setDesk_points (c : Console) (x : Desk) : (s.setDesk c x).points = s.points := rfl
@[simp] theorem State.setDesk_serialNext (c : Console) (x : Desk) : (s.setDesk c x).serialNext = s.serialNext := rfl
@[simp] theorem State.setDesk_areas (c : Console) (x : Desk) : (s.setDesk c x).areas = s.areas := rfl
@[simp] theorem State.setDesk_weights (c : Console) (x : Desk) : (s.setDesk c x).weights = s.weights := rfl
@[simp] theorem State.setDesk_decayShift (c : Console) (x : Desk) : (s.setDesk c x).decayShift = s.decayShift := rfl
@[simp] theorem State.setDesk_roster (c : Console) (x : Desk) : (s.setDesk c x).roster = s.roster := rfl
@[simp] theorem State.setDesk_lines (c : Console) (x : Desk) : (s.setDesk c x).lines = s.lines := rfl
@[simp] theorem State.setDesk_groups (c : Console) (x : Desk) : (s.setDesk c x).groups = s.groups := rfl
@[simp] theorem State.setDesk_shelf (c : Console) (x : Desk) : (s.setDesk c x).shelf = s.shelf := rfl
@[simp] theorem State.setDesk_records (c : Console) (x : Desk) : (s.setDesk c x).records = s.records := rfl
@[simp] theorem State.setDesk_horns (c : Console) (x : Desk) : (s.setDesk c x).horns = s.horns := rfl
@[simp] theorem State.setDesk_slots (c : Console) (x : Desk) : (s.setDesk c x).slots = s.slots := rfl
@[simp] theorem State.setDesk_board (c : Console) (x : Desk) : (s.setDesk c x).board = s.board := rfl
@[simp] theorem State.setDesk_lampTest (c : Console) (x : Desk) : (s.setDesk c x).lampTest = s.lampTest := rfl
@[simp] theorem State.setDesk_pattern (c : Console) (x : Desk) : (s.setDesk c x).pattern = s.pattern := rfl
@[simp] theorem State.setDesk_receiver (c : Console) (x : Desk) : (s.setDesk c x).receiver = s.receiver := rfl
@[simp] theorem State.setDesk_journal (c : Console) (x : Desk) : (s.setDesk c x).journal = s.journal := rfl
@[simp] theorem State.setDesk_ports (c : Console) (x : Desk) : (s.setDesk c x).ports = s.ports := rfl
@[simp] theorem State.setDesk_commonAlarm (c : Console) (x : Desk) : (s.setDesk c x).commonAlarm = s.commonAlarm := rfl

/-! ### setHorn -/

@[simp] theorem State.setHorn_pending (c : Console) (x : Horn) : (s.setHorn c x).pending = s.pending := rfl
@[simp] theorem State.setHorn_mode (c : Console) (x : Horn) : (s.setHorn c x).mode = s.mode := rfl
@[simp] theorem State.setHorn_time (c : Console) (x : Horn) : (s.setHorn c x).time = s.time := rfl
@[simp] theorem State.setHorn_timing (c : Console) (x : Horn) : (s.setHorn c x).timing = s.timing := rfl
@[simp] theorem State.setHorn_points (c : Console) (x : Horn) : (s.setHorn c x).points = s.points := rfl
@[simp] theorem State.setHorn_serialNext (c : Console) (x : Horn) : (s.setHorn c x).serialNext = s.serialNext := rfl
@[simp] theorem State.setHorn_areas (c : Console) (x : Horn) : (s.setHorn c x).areas = s.areas := rfl
@[simp] theorem State.setHorn_weights (c : Console) (x : Horn) : (s.setHorn c x).weights = s.weights := rfl
@[simp] theorem State.setHorn_decayShift (c : Console) (x : Horn) : (s.setHorn c x).decayShift = s.decayShift := rfl
@[simp] theorem State.setHorn_roster (c : Console) (x : Horn) : (s.setHorn c x).roster = s.roster := rfl
@[simp] theorem State.setHorn_desks (c : Console) (x : Horn) : (s.setHorn c x).desks = s.desks := rfl
@[simp] theorem State.setHorn_lines (c : Console) (x : Horn) : (s.setHorn c x).lines = s.lines := rfl
@[simp] theorem State.setHorn_groups (c : Console) (x : Horn) : (s.setHorn c x).groups = s.groups := rfl
@[simp] theorem State.setHorn_shelf (c : Console) (x : Horn) : (s.setHorn c x).shelf = s.shelf := rfl
@[simp] theorem State.setHorn_records (c : Console) (x : Horn) : (s.setHorn c x).records = s.records := rfl
@[simp] theorem State.setHorn_slots (c : Console) (x : Horn) : (s.setHorn c x).slots = s.slots := rfl
@[simp] theorem State.setHorn_board (c : Console) (x : Horn) : (s.setHorn c x).board = s.board := rfl
@[simp] theorem State.setHorn_lampTest (c : Console) (x : Horn) : (s.setHorn c x).lampTest = s.lampTest := rfl
@[simp] theorem State.setHorn_pattern (c : Console) (x : Horn) : (s.setHorn c x).pattern = s.pattern := rfl
@[simp] theorem State.setHorn_receiver (c : Console) (x : Horn) : (s.setHorn c x).receiver = s.receiver := rfl
@[simp] theorem State.setHorn_journal (c : Console) (x : Horn) : (s.setHorn c x).journal = s.journal := rfl
@[simp] theorem State.setHorn_ports (c : Console) (x : Horn) : (s.setHorn c x).ports = s.ports := rfl
@[simp] theorem State.setHorn_commonAlarm (c : Console) (x : Horn) : (s.setHorn c x).commonAlarm = s.commonAlarm := rfl

/-! ### putPoint -/

@[simp] theorem State.putPoint_pending (p : PointNo) (x : Point) : (s.putPoint p x).pending = s.pending := rfl
@[simp] theorem State.putPoint_mode (p : PointNo) (x : Point) : (s.putPoint p x).mode = s.mode := rfl
@[simp] theorem State.putPoint_time (p : PointNo) (x : Point) : (s.putPoint p x).time = s.time := rfl
@[simp] theorem State.putPoint_timing (p : PointNo) (x : Point) : (s.putPoint p x).timing = s.timing := rfl
@[simp] theorem State.putPoint_serialNext (p : PointNo) (x : Point) : (s.putPoint p x).serialNext = s.serialNext := rfl
@[simp] theorem State.putPoint_areas (p : PointNo) (x : Point) : (s.putPoint p x).areas = s.areas := rfl
@[simp] theorem State.putPoint_weights (p : PointNo) (x : Point) : (s.putPoint p x).weights = s.weights := rfl
@[simp] theorem State.putPoint_decayShift (p : PointNo) (x : Point) : (s.putPoint p x).decayShift = s.decayShift := rfl
@[simp] theorem State.putPoint_roster (p : PointNo) (x : Point) : (s.putPoint p x).roster = s.roster := rfl
@[simp] theorem State.putPoint_desks (p : PointNo) (x : Point) : (s.putPoint p x).desks = s.desks := rfl
@[simp] theorem State.putPoint_lines (p : PointNo) (x : Point) : (s.putPoint p x).lines = s.lines := rfl
@[simp] theorem State.putPoint_groups (p : PointNo) (x : Point) : (s.putPoint p x).groups = s.groups := rfl
@[simp] theorem State.putPoint_shelf (p : PointNo) (x : Point) : (s.putPoint p x).shelf = s.shelf := rfl
@[simp] theorem State.putPoint_records (p : PointNo) (x : Point) : (s.putPoint p x).records = s.records := rfl
@[simp] theorem State.putPoint_horns (p : PointNo) (x : Point) : (s.putPoint p x).horns = s.horns := rfl
@[simp] theorem State.putPoint_slots (p : PointNo) (x : Point) : (s.putPoint p x).slots = s.slots := rfl
@[simp] theorem State.putPoint_board (p : PointNo) (x : Point) : (s.putPoint p x).board = s.board := rfl
@[simp] theorem State.putPoint_lampTest (p : PointNo) (x : Point) : (s.putPoint p x).lampTest = s.lampTest := rfl
@[simp] theorem State.putPoint_pattern (p : PointNo) (x : Point) : (s.putPoint p x).pattern = s.pattern := rfl
@[simp] theorem State.putPoint_receiver (p : PointNo) (x : Point) : (s.putPoint p x).receiver = s.receiver := rfl
@[simp] theorem State.putPoint_journal (p : PointNo) (x : Point) : (s.putPoint p x).journal = s.journal := rfl
@[simp] theorem State.putPoint_ports (p : PointNo) (x : Point) : (s.putPoint p x).ports = s.ports := rfl
@[simp] theorem State.putPoint_commonAlarm (p : PointNo) (x : Point) : (s.putPoint p x).commonAlarm = s.commonAlarm := rfl

/-! ### Receiver, desk lines -/

@[simp] theorem State.setFraming_pending (x : Framing) : (s.setFraming x).pending = s.pending := rfl
@[simp] theorem State.setCounts_pending (x : LinkCounts) : (s.setCounts x).pending = s.pending := rfl
@[simp] theorem State.setDeskLine_pending (d : Console) (b : Button) (x : DeskLine) : (s.setDeskLine d b x).pending = s.pending := rfl
@[simp] theorem State.setFraming_mode (x : Framing) : (s.setFraming x).mode = s.mode := rfl
@[simp] theorem State.setCounts_mode (x : LinkCounts) : (s.setCounts x).mode = s.mode := rfl
@[simp] theorem State.setDeskLine_mode (d : Console) (b : Button) (x : DeskLine) : (s.setDeskLine d b x).mode = s.mode := rfl
@[simp] theorem State.setFraming_time (x : Framing) : (s.setFraming x).time = s.time := rfl
@[simp] theorem State.setCounts_time (x : LinkCounts) : (s.setCounts x).time = s.time := rfl
@[simp] theorem State.setDeskLine_time (d : Console) (b : Button) (x : DeskLine) : (s.setDeskLine d b x).time = s.time := rfl
@[simp] theorem State.setFraming_timing (x : Framing) : (s.setFraming x).timing = s.timing := rfl
@[simp] theorem State.setCounts_timing (x : LinkCounts) : (s.setCounts x).timing = s.timing := rfl
@[simp] theorem State.setDeskLine_timing (d : Console) (b : Button) (x : DeskLine) : (s.setDeskLine d b x).timing = s.timing := rfl
@[simp] theorem State.setFraming_points (x : Framing) : (s.setFraming x).points = s.points := rfl
@[simp] theorem State.setCounts_points (x : LinkCounts) : (s.setCounts x).points = s.points := rfl
@[simp] theorem State.setDeskLine_points (d : Console) (b : Button) (x : DeskLine) : (s.setDeskLine d b x).points = s.points := rfl
@[simp] theorem State.setFraming_serialNext (x : Framing) : (s.setFraming x).serialNext = s.serialNext := rfl
@[simp] theorem State.setCounts_serialNext (x : LinkCounts) : (s.setCounts x).serialNext = s.serialNext := rfl
@[simp] theorem State.setDeskLine_serialNext (d : Console) (b : Button) (x : DeskLine) : (s.setDeskLine d b x).serialNext = s.serialNext := rfl
@[simp] theorem State.setFraming_areas (x : Framing) : (s.setFraming x).areas = s.areas := rfl
@[simp] theorem State.setCounts_areas (x : LinkCounts) : (s.setCounts x).areas = s.areas := rfl
@[simp] theorem State.setDeskLine_areas (d : Console) (b : Button) (x : DeskLine) : (s.setDeskLine d b x).areas = s.areas := rfl
@[simp] theorem State.setFraming_weights (x : Framing) : (s.setFraming x).weights = s.weights := rfl
@[simp] theorem State.setCounts_weights (x : LinkCounts) : (s.setCounts x).weights = s.weights := rfl
@[simp] theorem State.setDeskLine_weights (d : Console) (b : Button) (x : DeskLine) : (s.setDeskLine d b x).weights = s.weights := rfl
@[simp] theorem State.setFraming_decayShift (x : Framing) : (s.setFraming x).decayShift = s.decayShift := rfl
@[simp] theorem State.setCounts_decayShift (x : LinkCounts) : (s.setCounts x).decayShift = s.decayShift := rfl
@[simp] theorem State.setDeskLine_decayShift (d : Console) (b : Button) (x : DeskLine) : (s.setDeskLine d b x).decayShift = s.decayShift := rfl
@[simp] theorem State.setFraming_roster (x : Framing) : (s.setFraming x).roster = s.roster := rfl
@[simp] theorem State.setCounts_roster (x : LinkCounts) : (s.setCounts x).roster = s.roster := rfl
@[simp] theorem State.setDeskLine_roster (d : Console) (b : Button) (x : DeskLine) : (s.setDeskLine d b x).roster = s.roster := rfl
@[simp] theorem State.setFraming_desks (x : Framing) : (s.setFraming x).desks = s.desks := rfl
@[simp] theorem State.setCounts_desks (x : LinkCounts) : (s.setCounts x).desks = s.desks := rfl
@[simp] theorem State.setDeskLine_desks (d : Console) (b : Button) (x : DeskLine) : (s.setDeskLine d b x).desks = s.desks := rfl
@[simp] theorem State.setFraming_lines (x : Framing) : (s.setFraming x).lines = s.lines := rfl
@[simp] theorem State.setCounts_lines (x : LinkCounts) : (s.setCounts x).lines = s.lines := rfl
@[simp] theorem State.setFraming_groups (x : Framing) : (s.setFraming x).groups = s.groups := rfl
@[simp] theorem State.setCounts_groups (x : LinkCounts) : (s.setCounts x).groups = s.groups := rfl
@[simp] theorem State.setDeskLine_groups (d : Console) (b : Button) (x : DeskLine) : (s.setDeskLine d b x).groups = s.groups := rfl
@[simp] theorem State.setFraming_shelf (x : Framing) : (s.setFraming x).shelf = s.shelf := rfl
@[simp] theorem State.setCounts_shelf (x : LinkCounts) : (s.setCounts x).shelf = s.shelf := rfl
@[simp] theorem State.setDeskLine_shelf (d : Console) (b : Button) (x : DeskLine) : (s.setDeskLine d b x).shelf = s.shelf := rfl
@[simp] theorem State.setFraming_records (x : Framing) : (s.setFraming x).records = s.records := rfl
@[simp] theorem State.setCounts_records (x : LinkCounts) : (s.setCounts x).records = s.records := rfl
@[simp] theorem State.setDeskLine_records (d : Console) (b : Button) (x : DeskLine) : (s.setDeskLine d b x).records = s.records := rfl
@[simp] theorem State.setFraming_horns (x : Framing) : (s.setFraming x).horns = s.horns := rfl
@[simp] theorem State.setCounts_horns (x : LinkCounts) : (s.setCounts x).horns = s.horns := rfl
@[simp] theorem State.setDeskLine_horns (d : Console) (b : Button) (x : DeskLine) : (s.setDeskLine d b x).horns = s.horns := rfl
@[simp] theorem State.setFraming_slots (x : Framing) : (s.setFraming x).slots = s.slots := rfl
@[simp] theorem State.setCounts_slots (x : LinkCounts) : (s.setCounts x).slots = s.slots := rfl
@[simp] theorem State.setDeskLine_slots (d : Console) (b : Button) (x : DeskLine) : (s.setDeskLine d b x).slots = s.slots := rfl
@[simp] theorem State.setFraming_board (x : Framing) : (s.setFraming x).board = s.board := rfl
@[simp] theorem State.setCounts_board (x : LinkCounts) : (s.setCounts x).board = s.board := rfl
@[simp] theorem State.setDeskLine_board (d : Console) (b : Button) (x : DeskLine) : (s.setDeskLine d b x).board = s.board := rfl
@[simp] theorem State.setFraming_lampTest (x : Framing) : (s.setFraming x).lampTest = s.lampTest := rfl
@[simp] theorem State.setCounts_lampTest (x : LinkCounts) : (s.setCounts x).lampTest = s.lampTest := rfl
@[simp] theorem State.setDeskLine_lampTest (d : Console) (b : Button) (x : DeskLine) : (s.setDeskLine d b x).lampTest = s.lampTest := rfl
@[simp] theorem State.setFraming_pattern (x : Framing) : (s.setFraming x).pattern = s.pattern := rfl
@[simp] theorem State.setCounts_pattern (x : LinkCounts) : (s.setCounts x).pattern = s.pattern := rfl
@[simp] theorem State.setDeskLine_pattern (d : Console) (b : Button) (x : DeskLine) : (s.setDeskLine d b x).pattern = s.pattern := rfl
@[simp] theorem State.setDeskLine_receiver (d : Console) (b : Button) (x : DeskLine) : (s.setDeskLine d b x).receiver = s.receiver := rfl
@[simp] theorem State.setFraming_journal (x : Framing) : (s.setFraming x).journal = s.journal := rfl
@[simp] theorem State.setCounts_journal (x : LinkCounts) : (s.setCounts x).journal = s.journal := rfl
@[simp] theorem State.setDeskLine_journal (d : Console) (b : Button) (x : DeskLine) : (s.setDeskLine d b x).journal = s.journal := rfl
@[simp] theorem State.setFraming_ports (x : Framing) : (s.setFraming x).ports = s.ports := rfl
@[simp] theorem State.setCounts_ports (x : LinkCounts) : (s.setCounts x).ports = s.ports := rfl
@[simp] theorem State.setDeskLine_ports (d : Console) (b : Button) (x : DeskLine) : (s.setDeskLine d b x).ports = s.ports := rfl
@[simp] theorem State.setFraming_commonAlarm (x : Framing) : (s.setFraming x).commonAlarm = s.commonAlarm := rfl
@[simp] theorem State.setCounts_commonAlarm (x : LinkCounts) : (s.setCounts x).commonAlarm = s.commonAlarm := rfl
@[simp] theorem State.setDeskLine_commonAlarm (d : Console) (b : Button) (x : DeskLine) : (s.setDeskLine d b x).commonAlarm = s.commonAlarm := rfl

@[simp] theorem State.setFraming_receiver (x : Framing) : (s.setFraming x).receiver = { s.receiver with framing := x } := rfl
@[simp] theorem State.setCounts_receiver (x : LinkCounts) : (s.setCounts x).receiver = { s.receiver with counts := x } := rfl

/-! ### Reading what was written -/

theorem State.port_setPort (i j : Console) (x : Port) :
    (s.setPort i x).port j = if i = j then x else s.port j := by
  simp [State.setPort, State.port, Vector.getElem_set, Fin.ext_iff]

@[simp] theorem State.port_setPort_same (i : Console) (x : Port) : (s.setPort i x).port i = x := by
  simp [State.port_setPort]

theorem State.port_setPort_other {i j : Console} (h : i ≠ j) (x : Port) : (s.setPort i x).port j = s.port j := by
  simp [State.port_setPort, h]

theorem State.area_setArea (i j : AreaNo) (x : Area) :
    (s.setArea i x).area j = if i = j then x else s.area j := by
  simp [State.setArea, State.area, Vector.getElem_set, Fin.ext_iff]

@[simp] theorem State.area_setArea_same (i : AreaNo) (x : Area) : (s.setArea i x).area i = x := by
  simp [State.area_setArea]

theorem State.area_setArea_other {i j : AreaNo} (h : i ≠ j) (x : Area) : (s.setArea i x).area j = s.area j := by
  simp [State.area_setArea, h]

theorem State.record_setRecord (i j : RecordNo) (x : HoRecord) :
    (s.setRecord i x).record j = if i = j then x else s.record j := by
  simp [State.setRecord, State.record, Vector.getElem_set, Fin.ext_iff]

@[simp] theorem State.record_setRecord_same (i : RecordNo) (x : HoRecord) : (s.setRecord i x).record i = x := by
  simp [State.record_setRecord]

theorem State.record_setRecord_other {i j : RecordNo} (h : i ≠ j) (x : HoRecord) : (s.setRecord i x).record j = s.record j := by
  simp [State.record_setRecord, h]

theorem State.desk_setDesk (i j : Console) (x : Desk) :
    (s.setDesk i x).desk j = if i = j then x else s.desk j := by
  simp [State.setDesk, State.desk, Vector.getElem_set, Fin.ext_iff]

@[simp] theorem State.desk_setDesk_same (i : Console) (x : Desk) : (s.setDesk i x).desk i = x := by
  simp [State.desk_setDesk]

theorem State.desk_setDesk_other {i j : Console} (h : i ≠ j) (x : Desk) : (s.setDesk i x).desk j = s.desk j := by
  simp [State.desk_setDesk, h]

theorem State.horn_setHorn (i j : Console) (x : Horn) :
    (s.setHorn i x).horn j = if i = j then x else s.horn j := by
  simp [State.setHorn, State.horn, Vector.getElem_set, Fin.ext_iff]

@[simp] theorem State.horn_setHorn_same (i : Console) (x : Horn) : (s.setHorn i x).horn i = x := by
  simp [State.horn_setHorn]

theorem State.horn_setHorn_other {i j : Console} (h : i ≠ j) (x : Horn) : (s.setHorn i x).horn j = s.horn j := by
  simp [State.horn_setHorn, h]

theorem State.point_putPoint (i j : PointNo) (x : Point) :
    (s.putPoint i x).point j = if i = j then x else s.point j := by
  simp [State.putPoint, State.point, Vector.getElem_set, Fin.ext_iff]

@[simp] theorem State.point_putPoint_same (i : PointNo) (x : Point) : (s.putPoint i x).point i = x := by
  simp [State.point_putPoint]

theorem State.point_putPoint_other {i j : PointNo} (h : i ≠ j) (x : Point) : (s.putPoint i x).point j = s.point j := by
  simp [State.point_putPoint, h]

/-! ### Readers across other writers -/

@[simp] theorem State.area_setPort (c : Console) (x : Port) (i : AreaNo) : (s.setPort c x).area i = s.area i := rfl
@[simp] theorem State.record_setPort (c : Console) (x : Port) (i : RecordNo) : (s.setPort c x).record i = s.record i := rfl
@[simp] theorem State.desk_setPort (c : Console) (x : Port) (i : Console) : (s.setPort c x).desk i = s.desk i := rfl
@[simp] theorem State.horn_setPort (c : Console) (x : Port) (i : Console) : (s.setPort c x).horn i = s.horn i := rfl
@[simp] theorem State.point_setPort (c : Console) (x : Port) (i : PointNo) : (s.setPort c x).point i = s.point i := rfl
@[simp] theorem State.port_setArea (a : AreaNo) (x : Area) (i : Console) : (s.setArea a x).port i = s.port i := rfl
@[simp] theorem State.record_setArea (a : AreaNo) (x : Area) (i : RecordNo) : (s.setArea a x).record i = s.record i := rfl
@[simp] theorem State.desk_setArea (a : AreaNo) (x : Area) (i : Console) : (s.setArea a x).desk i = s.desk i := rfl
@[simp] theorem State.horn_setArea (a : AreaNo) (x : Area) (i : Console) : (s.setArea a x).horn i = s.horn i := rfl
@[simp] theorem State.point_setArea (a : AreaNo) (x : Area) (i : PointNo) : (s.setArea a x).point i = s.point i := rfl
@[simp] theorem State.port_setRecord (r : RecordNo) (x : HoRecord) (i : Console) : (s.setRecord r x).port i = s.port i := rfl
@[simp] theorem State.area_setRecord (r : RecordNo) (x : HoRecord) (i : AreaNo) : (s.setRecord r x).area i = s.area i := rfl
@[simp] theorem State.desk_setRecord (r : RecordNo) (x : HoRecord) (i : Console) : (s.setRecord r x).desk i = s.desk i := rfl
@[simp] theorem State.horn_setRecord (r : RecordNo) (x : HoRecord) (i : Console) : (s.setRecord r x).horn i = s.horn i := rfl
@[simp] theorem State.point_setRecord (r : RecordNo) (x : HoRecord) (i : PointNo) : (s.setRecord r x).point i = s.point i := rfl
@[simp] theorem State.port_setDesk (c : Console) (x : Desk) (i : Console) : (s.setDesk c x).port i = s.port i := rfl
@[simp] theorem State.area_setDesk (c : Console) (x : Desk) (i : AreaNo) : (s.setDesk c x).area i = s.area i := rfl
@[simp] theorem State.record_setDesk (c : Console) (x : Desk) (i : RecordNo) : (s.setDesk c x).record i = s.record i := rfl
@[simp] theorem State.horn_setDesk (c : Console) (x : Desk) (i : Console) : (s.setDesk c x).horn i = s.horn i := rfl
@[simp] theorem State.point_setDesk (c : Console) (x : Desk) (i : PointNo) : (s.setDesk c x).point i = s.point i := rfl
@[simp] theorem State.port_setHorn (c : Console) (x : Horn) (i : Console) : (s.setHorn c x).port i = s.port i := rfl
@[simp] theorem State.area_setHorn (c : Console) (x : Horn) (i : AreaNo) : (s.setHorn c x).area i = s.area i := rfl
@[simp] theorem State.record_setHorn (c : Console) (x : Horn) (i : RecordNo) : (s.setHorn c x).record i = s.record i := rfl
@[simp] theorem State.desk_setHorn (c : Console) (x : Horn) (i : Console) : (s.setHorn c x).desk i = s.desk i := rfl
@[simp] theorem State.point_setHorn (c : Console) (x : Horn) (i : PointNo) : (s.setHorn c x).point i = s.point i := rfl
@[simp] theorem State.port_putPoint (p : PointNo) (x : Point) (i : Console) : (s.putPoint p x).port i = s.port i := rfl
@[simp] theorem State.area_putPoint (p : PointNo) (x : Point) (i : AreaNo) : (s.putPoint p x).area i = s.area i := rfl
@[simp] theorem State.record_putPoint (p : PointNo) (x : Point) (i : RecordNo) : (s.putPoint p x).record i = s.record i := rfl
@[simp] theorem State.desk_putPoint (p : PointNo) (x : Point) (i : Console) : (s.putPoint p x).desk i = s.desk i := rfl
@[simp] theorem State.horn_putPoint (p : PointNo) (x : Point) (i : Console) : (s.putPoint p x).horn i = s.horn i := rfl

end Sys2Proof.Machine
end

