-- ==== Sys2Proof/Laws/Frame.lean ====
section
/-! SUPPORT. What every shared operation leaves alone: `Base` and `Kept` (Safety.lean) hold between the state before an
operation and the state after it, so that a statement about a whole command follows the chain of its operations without
unfolding one. -/

namespace Sys2Proof.Machine

/-! ## The relations -/

theorem Port.Grown.refl (p : Port) : p.Grown p := ⟨rfl, rfl, rfl, rfl, rfl, by simp⟩

theorem Port.Grown.trans {p q r : Port} (h : p.Grown q) (k : q.Grown r) : p.Grown r where
  response := k.response.trans h.response
  result := k.result.trans h.result
  mask := k.mask.trans h.mask
  cursor := k.cursor.trans h.cursor
  irq := k.irq.trans h.irq
  flags := by
    rw [← h.flags, BitVec.and_assoc, k.flags]

theorem Base.refl (s : State) : Base s s where
  pending := rfl
  mode := rfl
  time := rfl
  timing := rfl
  weights := rfl
  decayShift := rfl
  lines := rfl
  slots := rfl
  board := rfl
  lampTest := rfl
  pattern := rfl
  receiver := rfl
  commonAlarm := rfl
  points := fun _ => rfl
  areas := fun _ => rfl
  ports := fun _ => .refl _
  hornOut := fun _ => rfl
  stream := rfl
  ready := rfl
  readySeen := rfl
  resumeDue := rfl
  sending := fun _ => ⟨rfl, rfl, rfl⟩
  rate := rfl
  fifo := List.prefix_refl _
  loads := id
  drops := id
  budget := id

theorem Base.trans {s t u : State} (h : Base s t) (k : Base t u) : Base s u where
  pending := k.pending.trans h.pending
  mode := k.mode.trans h.mode
  time := k.time.trans h.time
  timing := k.timing.trans h.timing
  weights := k.weights.trans h.weights
  decayShift := k.decayShift.trans h.decayShift
  lines := k.lines.trans h.lines
  slots := k.slots.trans h.slots
  board := k.board.trans h.board
  lampTest := k.lampTest.trans h.lampTest
  pattern := k.pattern.trans h.pattern
  receiver := k.receiver.trans h.receiver
  commonAlarm := k.commonAlarm.trans h.commonAlarm
  points := fun p => (k.points p).trans (h.points p)
  areas := fun a => (k.areas a).trans (h.areas a)
  ports := fun c => (h.ports c).trans (k.ports c)
  hornOut := fun c => (k.hornOut c).trans (h.hornOut c)
  stream := k.stream.trans h.stream
  ready := k.ready.trans h.ready
  readySeen := k.readySeen.trans h.readySeen
  resumeDue := k.resumeDue.trans h.resumeDue
  sending := fun hu => by
    obtain ⟨a, b, c⟩ := h.sending hu
    obtain ⟨a', b', c'⟩ := k.sending (a ▸ hu)
    exact ⟨a'.trans a, b'.trans b, c'.trans c⟩
  rate := k.rate.trans h.rate
  fifo := h.fifo.trans k.fifo
  loads := k.loads ∘ h.loads
  drops := k.drops ∘ h.drops
  budget := k.budget ∘ h.budget

theorem Kept.refl (s : State) : Kept s s where
  toBase := .refl s
  roster := rfl
  desks := rfl
  shelf := rfl
  owner := fun _ => rfl
  record := fun _ => rfl
  records := fun _ => rfl

theorem Kept.trans {s t u : State} (h : Kept s t) (k : Kept t u) : Kept s u where
  toBase := h.toBase.trans k.toBase
  roster := k.roster.trans h.roster
  desks := k.desks.trans h.desks
  shelf := k.shelf.trans h.shelf
  owner := fun a => (k.owner a).trans (h.owner a)
  record := fun a => (k.record a).trans (h.record a)
  records := fun r => (k.records r).trans (h.records r)

theorem Sequenced.refl (s : State) : Sequenced s s where
  toKept := .refl s
  attendance := fun _ => rfl
  scope := fun _ => rfl
  eventsLeft := Nat.le_refl _

theorem Sequenced.trans {s t u : State} (h : Sequenced s t) (k : Sequenced t u) : Sequenced s u where
  toKept := h.toKept.trans k.toKept
  attendance := fun a => (k.attendance a).trans (h.attendance a)
  scope := fun c => (k.scope c).trans (h.scope c)
  eventsLeft := Nat.le_trans k.eventsLeft h.eventsLeft

/-- A further effect, after a chain that keeps the state. -/
theorem Kept.after {s t u : State} (k : Kept t u) (h : Kept s t) : Kept s u := h.trans k

theorem Kept.foldl {α : Type} {f : State → α → State} (h : ∀ s x, Kept s (f s x)) (l : List α) (s : State) :
    Kept s (l.foldl f s) := by
  induction l generalizing s with
  | nil => exact .refl s
  | cons x l ih => exact (h s x).trans (ih _)

/-- A further effect, after a chain that keeps the state. -/
theorem Sequenced.after {s t u : State} (k : Sequenced t u) (h : Sequenced s t) : Sequenced s u := h.trans k

/-- A chain of effects, each of which keeps the state. -/
theorem Sequenced.foldl {α : Type} {f : State → α → State} (h : ∀ s x, Sequenced s (f s x)) (l : List α) (s : State) :
    Sequenced s (l.foldl f s) := by
  induction l generalizing s with
  | nil => exact .refl s
  | cons x l ih => exact (h s x).trans (ih _)

/-! ## Tables -/

theorem mapTable_getElem {α β : Type} {n : Nat} (f : α → β) (v : Vector α n) (i : Fin n) :
    (mapTable f v)[i] = f v[i] := by
  simp [mapTable]

theorem table4_getElem {α : Type} (f : Fin 4 → α) (i : Fin 4) : (table4 f)[i] = f i := by
  match i with
  | 0 => rfl
  | 1 => rfl
  | 2 => rfl
  | 3 => rfl

/-! ## Effects on one part of the state -/

/-- An effect on the points that keeps their configuration. -/
theorem Sequenced.ofPoints {s : State} (v : Vector Point 512) (h : ∀ p : PointNo, (v[p]).cfg = (s.point p).cfg) :
    Sequenced s { s with points := v } :=
  { Sequenced.refl s with points := h }

/-- An effect on the horns that keeps their outputs and scopes. -/
theorem Sequenced.ofHorns {s : State} (v : Vector Horn 4) (h : ∀ c : Console, (v[c]).out = (s.horn c).out)
    (hs : ∀ c : Console, (v[c]).scope = (s.horn c).scope) : Sequenced s { s with horns := v } :=
  { Sequenced.refl s with hornOut := h, scope := hs }

/-- An effect on the groups. -/
theorem Sequenced.ofGroups {s : State} (v : Vector Group 8) : Sequenced s { s with groups := v } := { Sequenced.refl s with }

/-- An effect on the serial counter. -/
theorem Sequenced.ofSerial {s : State} (n : Nat) : Sequenced s { s with serialNext := n } := { Sequenced.refl s with }

/-- What an offer leaves of the sender: its stream, the ready input, its rate, and a unit already in transmission. -/
structure Journal.Steady (j k : Journal) : Prop where
  stream : k.stream = j.stream
  ready : k.ready = j.ready
  readySeen : k.readySeen = j.readySeen
  resumeDue : k.resumeDue = j.resumeDue
  rate : k.rate = j.rate
  sending : j.unit ≠ none → k.unit = j.unit ∧ k.lineByte = j.lineByte ∧ k.bytesSent = j.bytesSent

theorem Journal.Steady.refl (j : Journal) : j.Steady j := ⟨rfl, rfl, rfl, rfl, rfl, fun _ => ⟨rfl, rfl, rfl⟩⟩

theorem Journal.Steady.trans {j k l : Journal} (h : j.Steady k) (g : k.Steady l) : j.Steady l where
  stream := g.stream.trans h.stream
  ready := g.ready.trans h.ready
  readySeen := g.readySeen.trans h.readySeen
  resumeDue := g.resumeDue.trans h.resumeDue
  rate := g.rate.trans h.rate
  sending := fun hu => by
    obtain ⟨a, b, c⟩ := h.sending hu
    obtain ⟨a', b', c'⟩ := g.sending (a ▸ hu)
    exact ⟨a'.trans a, b'.trans b, c'.trans c⟩

/-- An effect on the journal that keeps its sender, the records it holds, and the ranges, and leaves point 510 no more
events. -/
theorem Sequenced.ofJournal {s : State} (j : Journal) (h : s.journal.Steady j) (hf : s.journal.fifo <+: j.fifo)
    (hd : s.journal.countersInRange → j.countersInRange) (hw : s.journal.withinBudget → j.withinBudget)
    (he : j.eventsLeft ≤ s.journal.eventsLeft) :
    Sequenced s { s with journal := j } :=
  { Sequenced.refl s with
    stream := h.stream, ready := h.ready, readySeen := h.readySeen, resumeDue := h.resumeDue, rate := h.rate
    sending := h.sending, fifo := hf, drops := hd, budget := hw, eventsLeft := he }

/-- A port whose flags have grown. -/
theorem Sequenced.ofPort {s : State} (c : Console) (p : Port) (h : (s.port c).Grown p) : Sequenced s (s.setPort c p) :=
  { Sequenced.refl s with
    ports := fun d => by
      rw [State.port_setPort]
      split
      · next e => subst e; exact h
      · exact .refl _ }

/-- A record whose core is kept. -/
theorem Sequenced.ofRecord {s : State} (r : RecordNo) (x : HoRecord) (h : x.core = (s.record r).core) :
    Sequenced s (s.setRecord r x) :=
  { Sequenced.refl s with
    records := fun d => by
      rw [State.record_setRecord]
      split
      · next e => subst e; exact h
      · rfl }

/-- A point whose configuration is kept. -/
theorem putPoint_seq (s : State) (p : PointNo) (q : Point) (h : q.cfg = (s.point p).cfg) :
    Sequenced s (s.putPoint p q) :=
  { Sequenced.refl s with
    points := fun d => by
      rw [State.point_putPoint]
      split
      · next e => subst e; exact h
      · rfl }

/-- An area whose configuration, owner, record and range of load are kept. -/
theorem setArea_seq (s : State) (a : AreaNo) (e : Area) (h : e.cfg = (s.area a).cfg)
    (ho : e.owner = (s.area a).owner) (hr : e.record = (s.area a).record)
    (ht : e.attendance = (s.area a).attendance)
    (hl : (s.area a).load ≤ 32767 → e.load ≤ 32767) : Sequenced s (s.setArea a e) :=
  { Sequenced.refl s with
    attendance := fun d => by
      rw [State.area_setArea]
      split
      · next e => subst e; exact ht
      · rfl
    areas := fun d => by
      rw [State.area_setArea]
      split
      · next e => subst e; exact h
      · rfl
    owner := fun d => by
      rw [State.area_setArea]
      split
      · next e => subst e; exact ho
      · rfl
    record := fun d => by
      rw [State.area_setArea]
      split
      · next e => subst e; exact hr
      · rfl
    loads := fun k d => by
      rw [State.area_setArea]
      split
      · next e => subst e; exact hl (k a)
      · exact k d }

/-! ## Flags -/

theorem setFlag_seq (f : EventFlag) (s : State) (c : Console) : Sequenced s (setFlag f s c) :=
  .ofPort c _ ⟨rfl, rfl, rfl, rfl, rfl, by
    apply BitVec.eq_of_getLsbD_eq
    intro i _
    simp only [BitVec.getLsbD_and, BitVec.getLsbD_or]
    cases (s.port c).flags.getLsbD i <;> simp⟩

theorem setFlagAt_seq (f : EventFlag) (l : List Console) (s : State) : Sequenced s (setFlagAt f l s) :=
  Sequenced.foldl (fun s c => setFlag_seq f s c) l s

theorem setFlagInScope_seq (f : EventFlag) (s : State) (a : AreaNo) : Sequenced s (setFlagInScope f s a) :=
  setFlagAt_seq f _ s

theorem setFlagParty_seq (f : EventFlag) (c : Option Console) (s : State) : Sequenced s (setFlagParty f c s) := by
  cases c with
  | none => exact .refl s
  | some c => exact setFlag_seq f s c

/-! ## Points, counts, scopes -/

theorem recount_cfg (a : AreaNo) (old new : Point) (e : Area) : (recount a old new e).cfg = e.cfg := rfl

theorem recountArea_seq (s : State) (a : AreaNo) (old new : Point) : Sequenced s (s.recountArea a old new) :=
  setArea_seq s a _ rfl rfl rfl rfl id

/-- A point's change keeps the state where it keeps the point's configuration. -/
theorem setPoint_seq (s : State) (p : PointNo) (q : Point) (h : q.cfg = (s.point p).cfg) : Sequenced s (s.setPoint p q) := by
  have k : Sequenced s (if q.area = (s.point p).area then s.recountArea (s.point p).area (s.point p) q
      else (s.recountArea (s.point p).area (s.point p) q).recountArea q.area (s.point p) q) := by
    split
    · exact recountArea_seq ..
    · exact (recountArea_seq ..).trans (recountArea_seq ..)
  refine k.trans (putPoint_seq _ p q ?_)
  rw [h]
  split <;> rfl

theorem unsilence_seq (p : PointNo) (s : State) : Sequenced s (unsilence p s) :=
  .ofHorns _ (fun c => by rw [mapTable_getElem]; rfl) fun c => by rw [mapTable_getElem]; rfl

/-! ## The journal -/

/-- R158: a record begins only where no unit is in transmission. -/
theorem kick_steady (j : Journal) : j.Steady j.kick := by
  unfold Journal.kick
  split
  · next h => exact ⟨rfl, rfl, rfl, rfl, rfl, fun hu => absurd h (by cases e : j.unit <;> simp_all)⟩
  · exact .refl j

theorem accept_steady (j : Journal) (r : JournalRecord) : j.Steady (j.accept r) :=
  Journal.Steady.trans (k := { j with fifo := j.fifo ++ [r], quiet := false })
    ⟨rfl, rfl, rfl, rfl, rfl, fun _ => ⟨rfl, rfl, rfl⟩⟩ (kick_steady _)

theorem kick_fifo (j : Journal) : j.kick.fifo = j.fifo := by unfold Journal.kick; split <;> rfl
theorem kick_dropRoutine (j : Journal) : j.kick.dropRoutine = j.dropRoutine := by unfold Journal.kick; split <;> rfl
theorem kick_dropAccountable (j : Journal) : j.kick.dropAccountable = j.dropAccountable := by
  unfold Journal.kick; split <;> rfl
theorem kick_lossEvents (j : Journal) : j.kick.lossEvents = j.lossEvents := by unfold Journal.kick; split <;> rfl

theorem drops_steady (j : Journal) (a b : Nat) : j.Steady { j with dropRoutine := a, dropAccountable := b } :=
  ⟨rfl, rfl, rfl, rfl, rfl, fun _ => ⟨rfl, rfl, rfl⟩⟩

theorem accept_fifo (j : Journal) (r : JournalRecord) : (j.accept r).fifo = j.fifo ++ [r] := by
  simp [Journal.accept, kick_fifo]

theorem accept_dropRoutine (j : Journal) (r : JournalRecord) : (j.accept r).dropRoutine = j.dropRoutine := by
  simp [Journal.accept, kick_dropRoutine]

theorem accept_dropAccountable (j : Journal) (r : JournalRecord) :
    (j.accept r).dropAccountable = j.dropAccountable := by
  simp [Journal.accept, kick_dropAccountable]

/-- R155: a FIFO below the limit of a record's class keeps its budget when the record joins it. -/
theorem budget_append {l : List JournalRecord} {r : JournalRecord} (h : l.length < classLimit r.cls)
    (k : l.length ≤ 256 ∧ (l.filter fun r => r.cls == .routine).length ≤ 224) :
    (l ++ [r]).length ≤ 256 ∧ ((l ++ [r]).filter fun r => r.cls == .routine).length ≤ 224 := by
  have hf := List.length_filter_le (fun r : JournalRecord => r.cls == .routine) l
  cases hc : r.cls with
  | routine => simp [hc, classLimit] at h ⊢; omega
  | accountable => simp [hc, classLimit] at h ⊢; omega

theorem accept_lossEvents (j : Journal) (r : JournalRecord) : (j.accept r).lossEvents = j.lossEvents := by
  simp [Journal.accept, kick_lossEvents]

theorem accept_lossPending (j : Journal) (r : JournalRecord) : (j.accept r).lossPending = j.lossPending := by
  simp [Journal.lossPending, accept_dropRoutine, accept_dropAccountable]

/-- R156: a class's limit is at most the 256 places of the FIFO. -/
theorem classLimit_le (c : JournalClass) : classLimit c ≤ 256 := by cases c <;> decide

/-- R156: after a drop a loss is pending. -/
theorem drop_lossPending (j : Journal) (c : JournalClass) : (j.drop c).lossPending = true := by
  cases c <;> simp [Journal.drop, Journal.lossPending, saturate16]

/-- The events that wait have no part in whether a loss is pending. -/
theorem lossPending_lossEvents (j : Journal) (l : List Input) :
    ({ j with lossEvents := l } : Journal).lossPending = j.lossPending := rfl

theorem drop_lossEvents (j : Journal) (c : JournalClass) : (j.drop c).lossEvents = j.lossEvents := by cases c <;> rfl
theorem drop_fifo (j : Journal) (c : JournalClass) : (j.drop c).fifo = j.fifo := by cases c <;> rfl
theorem drop_steady (j : Journal) (c : JournalClass) : j.Steady (j.drop c) := by cases c <;> exact drops_steady ..

theorem drop_countersInRange (j : Journal) (c : JournalClass) (h : j.countersInRange) : (j.drop c).countersInRange := by
  cases c <;> simp only [Journal.countersInRange, Journal.drop, saturate16] at h ⊢ <;> omega

/-- R157: a journal whose loss condition has changed: a changed condition waits for point 510, in CONFIGURING it is
dropped (R26). -/
def Journal.changed (j : Journal) (inService : Bool) (i : Input) : Journal :=
  if inService then { j with lossEvents := j.lossEvents ++ [i] } else j

/-- R157: what a change of the loss condition does: the JOURNAL event at every port, and the event that waits. -/
theorem lossChange_eq (i : Input) (s : State) :
    lossChange i s = setFlagAt .journal allFour { s with journal := s.journal.changed s.inService i } := by
  have h : (setFlagAt .journal allFour s).journal = s.journal := rfl
  unfold lossChange Journal.changed
  dsimp only
  split
  · rw [h]; rfl
  · rfl

theorem changed_steady (j : Journal) (b : Bool) (i : Input) : j.Steady (j.changed b i) := by
  unfold Journal.changed
  split
  · exact ⟨rfl, rfl, rfl, rfl, rfl, fun _ => ⟨rfl, rfl, rfl⟩⟩
  · exact .refl j

theorem changed_fifo (j : Journal) (b : Bool) (i : Input) : (j.changed b i).fifo = j.fifo := by
  unfold Journal.changed; split <;> rfl

theorem changed_countersInRange (j : Journal) (b : Bool) (i : Input) :
    (j.changed b i).countersInRange ↔ j.countersInRange := by
  unfold Journal.changed; split <;> exact Iff.rfl

/-- R157: a change brings point 510 at most one event more. -/
theorem changed_eventsLeft (j : Journal) (b : Bool) (i : Input) : (j.changed b i).eventsLeft ≤ j.eventsLeft + 1 := by
  unfold Journal.changed
  split
  · simp only [Journal.eventsLeft, lossPending_lossEvents, List.length_append, List.length_singleton]
    omega
  · omega

theorem accept_seq (s : State) (r : JournalRecord) (h : s.journal.fifo.length < classLimit r.cls) :
    Sequenced s { s with journal := s.journal.accept r } :=
  .ofJournal _ (accept_steady ..) (by rw [accept_fifo]; exact List.prefix_append ..)
    (by simp [Journal.countersInRange, accept_dropRoutine, accept_dropAccountable])
    (by unfold Journal.withinBudget; rw [accept_fifo]; exact budget_append h)
    (by simp [Journal.eventsLeft, accept_lossEvents, accept_lossPending, accept_fifo]; omega)

theorem drop_seq (s : State) (c : JournalClass) : Sequenced s { s with journal := s.journal.drop c } :=
  .ofJournal _ (drop_steady ..) (by rw [drop_fifo]) (drop_countersInRange _ c)
    (by unfold Journal.withinBudget; rw [drop_fifo]; exact id)
    (by simp [Journal.eventsLeft, drop_lossEvents, drop_fifo, drop_lossPending])

/-- R157: point 510 given the first of the events that wait: one event fewer is left. -/
theorem lossEvents_seq {s : State} {i : Input} {rest : List Input} (h : s.journal.lossEvents = i :: rest) :
    Sequenced s { s with journal := { s.journal with lossEvents := rest } } :=
  .ofJournal _ ⟨rfl, rfl, rfl, rfl, rfl, fun _ => ⟨rfl, rfl, rfl⟩⟩ (List.prefix_refl _) id id
    (by simp only [Journal.eventsLeft, lossPending_lossEvents, h, List.length_cons]; omega)

theorem offerAlone_seq (s : State) (r : JournalRecord) : Sequenced s (offerAlone s r) := by
  unfold offerAlone
  split
  · next h => exact accept_seq s r h
  · dsimp only
    split
    · exact drop_seq s r.cls
    · next h =>
      rw [lossChange_eq]
      refine Sequenced.after (setFlagAt_seq ..) (.ofJournal _ ?_ ?_ (fun k => ?_) ?_ ?_)
      · exact (drop_steady ..).trans (changed_steady ..)
      · simp [changed_fifo, drop_fifo]
      · exact (changed_countersInRange ..).2 (drop_countersInRange _ _ k)
      · simp [Journal.withinBudget, changed_fifo, drop_fifo]
      · refine Nat.le_trans (changed_eventsLeft ..) ?_
        simp [Journal.eventsLeft, drop_lossEvents, drop_fifo, drop_lossPending, h]

theorem offerRecord_seq (s : State) (r : JournalRecord) : Sequenced s (offerRecord s r) := by
  unfold offerRecord
  split
  · next hp =>
    split
    · next h =>
      have hl := classLimit_le r.cls
      dsimp only
      rw [lossChange_eq]
      refine Sequenced.after (setFlagAt_seq ..) (.ofJournal _ ?_ ?_ (fun _ => ?_) (fun k => ?_) ?_)
      · exact (((accept_steady ..).trans (drops_steady _ 0 0)).trans (accept_steady _ r)).trans (changed_steady ..)
      · simp only [changed_fifo, accept_fifo, List.append_assoc]
        exact List.prefix_append ..
      · rw [changed_countersInRange]
        simp [Journal.countersInRange, accept_dropRoutine, accept_dropAccountable]
      · unfold Journal.withinBudget
        simp only [changed_fifo, accept_fifo]
        refine budget_append (by simpa using h) (budget_append ?_ k)
        simp only [lossRecord, journalRecord, classLimit]
        omega
      · refine Nat.le_trans (changed_eventsLeft ..) ?_
        simp only [Journal.eventsLeft, accept_lossEvents, accept_fifo, accept_lossPending, hp, List.length_append,
          List.length_singleton]
        refine Nat.le_trans (Nat.add_le_add_right (Nat.add_le_add_left (Bool.toNat_le _) _) _) ?_
        simp only [Bool.not_true, Bool.toNat_false]
        omega
    · exact drop_seq ..
  · exact offerAlone_seq s r

/-- An offer keeps the state. -/
def Offer.Keeps (off : Offer) : Prop := ∀ s r, Sequenced s (off s r)

/-! ## The sequencer -/

theorem checklistEvents_seq (before now : HoRecord) (s : State) : Sequenced s (checklistEvents before now s) := by
  unfold checklistEvents
  have k (b : Bool) (c : Option Console) (s : State) :
      Sequenced s (if b then setFlagParty .checklist c s else s) := by
    split
    · exact setFlagParty_seq ..
    · exact .refl _
  split
  · exact (k _ _ s).trans (k _ _ _)
  · exact .refl _

theorem clearItem0_seq (s : State) (a : AreaNo) : Sequenced s (clearItem0 s a) := by
  unfold clearItem0
  split
  · exact .refl _
  · dsimp only
    split
    · exact (Sequenced.ofRecord _ _ (by rfl)).trans (checklistEvents_seq ..)
    · exact .refl _

theorem judgeHold_seq (s : State) (a : AreaNo) : Sequenced s (judgeHold s a) := by
  unfold judgeHold
  split
  · exact .refl _
  · dsimp only
    split
    · exact Sequenced.ofRecord _ _ (by rfl)
    · exact .refl _

theorem floodRaise_seq {off : Offer} (ho : off.Keeps) (s : State) (a : AreaNo) (p : Priority) :
    Sequenced s (floodRaise off s a p) := by
  unfold floodRaise
  dsimp only
  split
  · refine ((((setArea_seq s a _ (by rfl) (by rfl) (by rfl) (by rfl) (fun _ => Nat.min_le_left ..)).trans (setArea_seq _ a _
      (by simp; rfl) (by simp) (by simp) (by simp) (by simp))).trans (ho _ _)).trans (setFlagInScope_seq ..)).trans (judgeHold_seq ..)
  · exact setArea_seq _ _ _ (by rfl) (by rfl) (by rfl) (by rfl) (fun _ => Nat.min_le_left ..)

theorem firstOutRaise_seq {off : Offer} (ho : off.Keeps) (s : State) (p : PointNo) :
    Sequenced s (firstOutRaise off s p) := by
  unfold firstOutRaise
  dsimp only
  split
  · exact .refl _
  · split
    · exact ((putPoint_seq s p _ (by rfl)).trans (Sequenced.ofGroups _)).trans (ho _ _)
    · split
      · exact putPoint_seq _ _ _ (by rfl)
      · exact .refl _

theorem rearm_seq (g : GroupNo) (s : State) : Sequenced s (rearm g s) := by
  refine Sequenced.trans (Sequenced.ofGroups (s.groups.set g .armed)) (Sequenced.ofPoints _ fun p => ?_)
  rw [mapTable_getElem]
  split <;> rfl

theorem toldNormal_seq (s : State) (p : PointNo) : Sequenced s (toldNormal s p) := by
  unfold toldNormal
  split
  · exact .refl _
  · split
    · exact .refl _
    · split
      · exact rearm_seq ..
      · exact .refl _

theorem startChirps_seq (s : State) (a : AreaNo) : Sequenced s (startChirps s a) :=
  .ofHorns _ (fun c => by rw [mapTable_getElem]; split <;> rfl) fun c => by rw [mapTable_getElem]; split <;> rfl

theorem startRaise_seq (s : State) (p : PointNo) : Sequenced s (startRaise s p) :=
  (unsilence_seq ..).after ((Sequenced.ofSerial _).after (setPoint_seq s p _ (by rfl)))

theorem markQuiet_seq (s : State) (p : PointNo) (b : Bool) : Sequenced s (markQuiet s p b) :=
  putPoint_seq s p _ (by rfl)

theorem announceRaise_seq (s : State) (a : AreaNo) (p : Priority) (b : Bool) : Sequenced s (announceRaise s a p b) := by
  unfold announceRaise
  split
  · exact .refl s
  · split
    · exact (startChirps_seq ..).after (setFlagInScope_seq ..)
    · exact setFlagInScope_seq ..

theorem raisePoint_seq {off : Offer} (ho : off.Keeps) (s : State) (p : PointNo) : Sequenced s (raisePoint off s p) :=
  (ho _ _).after <| (announceRaise_seq ..).after <| (clearItem0_seq ..).after <| (firstOutRaise_seq ho _ _).after <|
    (markQuiet_seq ..).after <| (floodRaise_seq ho _ _ _).after (startRaise_seq s p)

theorem stepInput_seq {off : Offer} (ho : off.Keeps) (s : State) (p : PointNo) : Sequenced s (stepInput off s p) := by
  unfold stepInput
  dsimp only
  split
  · exact raisePoint_seq ho s p
  · exact raisePoint_seq ho s p
  · exact ((setPoint_seq s p _ (by rfl)).trans (unsilence_seq ..)).trans (ho _ _)
  · exact ((setPoint_seq s p _ (by rfl)).trans (ho _ _)).trans (toldNormal_seq ..)
  · exact .refl _

theorem cfg_input (q : Point) (i : Input) : ({ q with input := i } : Point).cfg = q.cfg := rfl

theorem pointInput_seq {off : Offer} (ho : off.Keeps) (s : State) (p : PointNo) (i : Input) (ql : Quality) :
    Sequenced s (pointInput off s p i ql) := by
  unfold pointInput
  dsimp only
  split
  · split
    · exact setPoint_seq s p _ (by rfl)
    · exact ((setPoint_seq s p _ (by rfl)).trans (putPoint_seq _ _ _ (cfg_input _ _))).trans (stepInput_seq ho _ p)
  · exact .refl _

theorem give510_seq (n : Nat) (s : State) : Sequenced s (give510 n s) := by
  induction n generalizing s with
  | zero => exact .refl s
  | succ n ih =>
    unfold give510
    split
    · exact .refl s
    · next h => exact ((lossEvents_seq h).trans
        (pointInput_seq offerRecord_seq _ 510 _ _)).trans (ih _)

theorem settle510_seq (s : State) : Sequenced s (settle510 s) := give510_seq ..

/-- R151: no block waits on the journal: an offer changes the journal, and, through point 510, the sequence. -/
theorem offer_seq : Offer.Keeps offer := fun s r => (offerRecord_seq s r).trans (settle510_seq _)

theorem handled_seq (p : PointNo) (f : Offer → State → State) (h : ∀ off s, Offer.Keeps off → Sequenced s (f off s))
    (s : State) : Sequenced s (handled p f s) := by
  unfold handled
  split
  · exact (h _ s offerRecord_seq).trans (settle510_seq _)
  · exact h _ s offer_seq

theorem systemPoint_seq (s : State) (p : PointNo) (i : Input) : Sequenced s (systemPoint s p i) := by
  unfold systemPoint
  split
  · exact handled_seq p _ (fun _ s ho => pointInput_seq ho s p i .good) s
  · exact .refl s

/-! ## Acknowledgements -/

theorem ackPartnerEvents_seq (c : Console) (l : List Console) (s : State) : Sequenced s (ackPartnerEvents c l s) := by
  unfold ackPartnerEvents
  split
  · exact setFlagAt_seq ..
  · exact .refl s

theorem acknowledge_cfg (q : Point) (i : AckInfo) : (q.acknowledge i).cfg = q.cfg := by
  unfold Point.acknowledge
  dsimp only
  split <;> rfl

theorem stepAck_seq (s : State) (p : PointNo) (c : Console) (op : Nat) (b : Bool) : Sequenced s (stepAck s p c op b) :=
  have h := ackPartnerEvents_seq c (s.point p).ackSet s
  (unsilence_seq ..).after ((setPoint_seq _ p _ ((acknowledge_cfg ..).trans (h.points p).symm)).after h)

theorem completeAckWith_seq {off : Offer} (ho : off.Keeps) (s : State) (p : PointNo) (c : Console) (op : Nat)
    (b : Bool) : Sequenced s (completeAckWith off s p c op b) := by
  have k := (ho (stepAck s p c op b) (ackRecord (stepAck s p c op b) p c op b)).after (stepAck_seq s p c op b)
  unfold completeAckWith
  dsimp only
  split
  · exact k.trans (toldNormal_seq ..)
  · exact k

theorem completeAck_seq (s : State) (p : PointNo) (c : Console) (op : Nat) (b : Bool) :
    Sequenced s (completeAck s p c op b) :=
  handled_seq p _ (fun _ s ho => completeAckWith_seq ho s p c op b) s

theorem partialAck_seq (s : State) (p : PointNo) (c : Console) : Sequenced s (partialAck s p c) := by
  unfold partialAck
  dsimp only
  split
  · exact (putPoint_seq s p _ (by rfl)).trans (offer_seq _ _)
  · exact ((putPoint_seq s p _ (by rfl)).trans (offer_seq _ _)).trans (setFlagParty_seq ..)

theorem settleAck_seq (s : State) (p : PointNo) (c : Console) : Sequenced s (settleAck s p c) := by
  unfold settleAck
  split
  · exact completeAck_seq ..
  · exact partialAck_seq ..
  · exact .refl s

theorem visitAck_seq (c : Console) (t : AckTally) (p : PointNo) : Sequenced t.state (visitAck c t p).state := by
  unfold visitAck
  dsimp only
  split
  · split
    · exact settleAck_seq ..
    · exact settleAck_seq ..
    · exact .refl _
  · exact .refl _

/-- A chain of visits, each of which keeps the state. -/
theorem tally_seq {f : AckTally → PointNo → AckTally} (h : ∀ t p, Sequenced t.state (f t p).state) (l : List PointNo)
    (t : AckTally) : Sequenced t.state (l.foldl f t).state := by
  induction l generalizing t with
  | nil => exact .refl _
  | cons x l ih => exact (h t x).trans (ih _)

theorem ackPoints_seq (s : State) (c : Console) (f : AreaNo → Bool) : Sequenced s (ackPoints s c f).state :=
  tally_seq (visitAck_seq c) _ { state := s, completed := 0, recorded := 0 }

/-! ## The resolution of a record's end, and the shelf's returns -/

theorem resolvePoint_seq (set : AreaSet) (c : Console) (op : Nat) (t : AckTally) (p : PointNo) :
    Sequenced t.state (resolvePoint set c op t p).state := by
  unfold resolvePoint
  dsimp only
  split
  · exact completeAck_seq ..
  · exact .refl _

theorem emptied_cfg (b : Bool) (q : Point) : (if b then { q with ackSet := [] } else q).cfg = q.cfg := by
  cases b <;> rfl

theorem resolveAckSets_seq (set : AreaSet) (c : Console) (op : Nat) (s : State) :
    Sequenced s (resolveAckSets set c op s).state := by
  refine Sequenced.after (Sequenced.ofPoints _ fun p => ?_)
    (tally_seq (resolvePoint_seq set c op) _ { state := s, completed := 0, recorded := 0 })
  rw [mapTable_getElem]
  exact emptied_cfg _ _

theorem shelfReturn_seq (s : State) (p : PointNo) : Sequenced s (shelfReturn s p) := by
  unfold shelfReturn
  dsimp only
  refine Sequenced.trans ?_ (setFlag_seq ..)
  split
  · exact handled_seq p _ (fun _ s ho => raisePoint_seq ho s p) s
  · exact (setPoint_seq s p _ (by rfl)).trans (toldNormal_seq ..)

/-! ## Attendance, presence, escalation -/

theorem recomputeScopes_kept (s : State) : Kept s (recomputeScopes s) :=
  have h (c : Console) : ((recomputeScopes s).horn c).out = (s.horn c).out := by
    show ((recomputeScopes s).horns[c]).out = _
    unfold recomputeScopes
    rw [table4_getElem]
  { Kept.refl s with hornOut := h }

theorem setFlag_keeps (f : EventFlag) (s : State) (c : Console) : Kept s (setFlag f s c) := (setFlag_seq f s c).toKept
theorem setFlagAt_keeps (f : EventFlag) (l : List Console) (s : State) : Kept s (setFlagAt f l s) :=
  (setFlagAt_seq f l s).toKept
theorem setFlagParty_keeps (f : EventFlag) (c : Option Console) (s : State) : Kept s (setFlagParty f c s) :=
  (setFlagParty_seq f c s).toKept
theorem offer_keeps (s : State) (r : JournalRecord) : Kept s (offer s r) := (offer_seq s r).toKept
theorem systemPoint_keeps (s : State) (p : PointNo) (i : Input) : Kept s (systemPoint s p i) :=
  (systemPoint_seq s p i).toKept

theorem setAttendance_kept (s : State) (a : AreaNo) (t : Attendance) : Kept s (s.setAttendance a t) where
  toBase :=
    { Base.refl s with
      areas := fun d => by
        unfold State.setAttendance
        rw [State.area_setArea]
        split
        · next e => subst e; rfl
        · rfl
      loads := fun k d => by
        unfold State.setAttendance
        rw [State.area_setArea]
        split
        · next e => subst e; exact k a
        · exact k d }
  roster := rfl
  desks := rfl
  shelf := rfl
  owner := fun d => by
    unfold State.setAttendance
    rw [State.area_setArea]
    split
    · next e => subst e; rfl
    · rfl
  record := fun d => by
    unfold State.setAttendance
    rw [State.area_setArea]
    split
    · next e => subst e; rfl
    · rfl
  records := fun _ => rfl

theorem endEscalation_kept (s : State) (a : AreaNo) : Kept s (endEscalation s a) := by
  have k : Kept s (setFlag .presence (setFlag .presence (recomputeScopes (s.setAttendance a .attended)) 0)
      ((recomputeScopes (s.setAttendance a .attended)).area a).owner) :=
    (((setAttendance_kept s a _).trans (recomputeScopes_kept _)).trans (setFlag_keeps ..)).trans (setFlag_keeps ..)
  unfold endEscalation
  dsimp only
  split
  · exact k
  · exact k.trans (systemPoint_keeps ..)

theorem reevaluate_kept (s : State) (a : AreaNo) : Kept s (reevaluate s a) := by
  unfold reevaluate
  split
  · exact setAttendance_kept ..
  · exact setAttendance_kept ..
  · exact endEscalation_kept ..
  · exact .refl s

theorem reevaluateAll_kept (s : State) (l : List AreaNo) : Kept s (reevaluateAll s l) :=
  Kept.foldl reevaluate_kept l s

theorem stepEscalated_kept (s : State) (a : AreaNo) : Kept s (stepEscalated s a) :=
  (recomputeScopes_kept _).after (setAttendance_kept ..)

theorem escalateArea_kept (s : State) (a : AreaNo) : Kept s (escalateArea s a) := by
  have k := (setFlag_keeps .presence _ (s.area a).owner).after <| (setFlag_keeps .presence _ 0).after <|
    (offer_keeps _ (escalateRecord (stepEscalated s a) a)).after (stepEscalated_kept s a)
  unfold escalateArea
  dsimp only
  split
  · exact k
  · exact k.trans (systemPoint_keeps ..)

end Sys2Proof.Machine
end

