-- ==== Sys2Proof/Laws/Ops.lean ====
section
/-! SUPPORT. What the shared operations do, once each: the outputs after an event, the checks of a request, the arrival
of a frame, an offer to a journal with room, and the ends of records. -/

namespace Sys2Proof.Machine

/-! ## Tables -/

/-- The entries of a table are its values with their numbers. -/
theorem mem_entries {α : Type} {n : Nat} {v : Vector α n} {i : Fin n} {a : α} : (i, a) ∈ entries v ↔ v[i] = a := by
  simp only [entries, List.mem_iff_getElem, List.getElem_zip, List.getElem_finRange, Prod.mk.injEq, List.length_zip,
    List.length_finRange, Vector.length_toList, Nat.min_self, Vector.getElem_toList]
  constructor
  · rintro ⟨k, hk, rfl, rfl⟩
    rfl
  · rintro rfl
    exact ⟨i, i.isLt, rfl, rfl⟩

/-- What one pass over the point table finds of every point. -/
theorem forall_points {s : State} {f : PointNo → Point → Bool}
    (h : ((entries s.points).all fun x => f x.1 x.2) = true) (p : PointNo) : f p (s.point p) = true :=
  List.all_eq_true.mp h (p, s.point p) (mem_entries.mpr rfl)

/-- What one pass over the point table finds of some point. -/
theorem exists_points {s : State} {f : Point → Prop} [DecidablePred f] :
    (∃ p, f (s.point p)) ↔ (s.points.toList.any fun q => decide (f q)) = true := by
  simp only [List.any_eq_true, decide_eq_true_eq]
  constructor
  · rintro ⟨p, h⟩
    exact ⟨s.point p, by simp [State.point], h⟩
  · rintro ⟨q, hq, h⟩
    obtain ⟨k, hk, rfl⟩ := List.mem_iff_getElem.mp hq
    exact ⟨⟨k, by simpa using hk⟩, by simpa [State.point] using h⟩

/-- The points that pass a test, gathered in one pass over the point table. -/
theorem filter_points (s : State) (f : PointNo → Point → Bool) :
    (List.finRange 512).filter (fun p => f p (s.point p)) =
      ((entries s.points).filter fun x => f x.1 x.2).map (·.1) := by
  have h : entries s.points = (List.finRange 512).map fun p => (p, s.point p) := by
    apply List.ext_getElem <;> simp [entries, State.point]
  rw [h, List.filter_map, List.map_map]
  exact (List.map_id _).symm

/-- A table of 32 entries, read by tile number. -/
theorem table32_get {α : Type} (f : Fin 32 → α) (n : Fin 32) : (table32 f)[n] = f n := by simp [table32]

/-! ## The board -/

@[simp] theorem drive_scanner (b : Board) : b.drive.scanner = b.scanner := rfl
@[simp] theorem drive_count (b : Board) : b.drive.count = b.count := rfl
@[simp] theorem drive_frameDue (b : Board) : b.drive.frameDue = b.frameDue := rfl
@[simp] theorem drive_words (b : Board) : b.drive.words = b.words := rfl
@[simp] theorem drive_chain (b : Board) : b.drive.chain = b.chain := rfl
@[simp] theorem drive_lamps (b : Board) : b.drive.lamps = b.lamps := rfl

/-- R132: what the chain of drivers holds after words are shifted into it. -/
theorem shiftInto_get (chain : Vector LampWord 32) (sent : List LampWord) (n : Fin 32) :
    (shiftInto chain sent)[n] = if h : n.val < sent.length then sent.reverse[n.val]'(by simpa using h)
      else chain.toList.getD (n.val - sent.length) .blank := by
  rw [shiftInto, table32_get]
  split
  · next h => simp [List.getD_eq_getElem?_getD, List.getElem?_append, h]
  · next h => simp [List.getD_eq_getElem?_getD, List.getElem?_append, h]

/-- R132: a millisecond tick of the board leaves its words and lamps. -/
theorem tick_words_lamps (b : Board) : b.tick.words = b.words ∧ b.tick.lamps = b.lamps := by
  unfold Board.tick
  split
  · exact ⟨rfl, rfl⟩
  · dsimp only
    split <;> split <;> exact ⟨rfl, rfl⟩

/-! ## The outputs after an event -/

@[simp] theorem settle_pending (s : State) : (settle s).pending = s.pending := rfl
@[simp] theorem settle_mode (s : State) : (settle s).mode = s.mode := rfl
@[simp] theorem settle_time (s : State) : (settle s).time = s.time := rfl
@[simp] theorem settle_timing (s : State) : (settle s).timing = s.timing := rfl
@[simp] theorem settle_points (s : State) : (settle s).points = s.points := rfl
@[simp] theorem settle_serialNext (s : State) : (settle s).serialNext = s.serialNext := rfl
@[simp] theorem settle_areas (s : State) : (settle s).areas = s.areas := rfl
@[simp] theorem settle_weights (s : State) : (settle s).weights = s.weights := rfl
@[simp] theorem settle_decayShift (s : State) : (settle s).decayShift = s.decayShift := rfl
@[simp] theorem settle_roster (s : State) : (settle s).roster = s.roster := rfl
@[simp] theorem settle_desks (s : State) : (settle s).desks = s.desks := rfl
@[simp] theorem settle_lines (s : State) : (settle s).lines = s.lines := rfl
@[simp] theorem settle_groups (s : State) : (settle s).groups = s.groups := rfl
@[simp] theorem settle_shelf (s : State) : (settle s).shelf = s.shelf := rfl
@[simp] theorem settle_records (s : State) : (settle s).records = s.records := rfl
@[simp] theorem settle_slots (s : State) : (settle s).slots = s.slots := rfl
@[simp] theorem settle_board (s : State) : (settle s).board = s.board.drive := rfl
@[simp] theorem settle_lampTest (s : State) : (settle s).lampTest = s.lampTest := rfl
@[simp] theorem settle_pattern (s : State) : (settle s).pattern = s.pattern := rfl
@[simp] theorem settle_receiver (s : State) : (settle s).receiver = s.receiver := rfl
@[simp] theorem settle_journal (s : State) : (settle s).journal = s.journal := rfl

@[simp] theorem settle_commonAlarm (s : State) : (settle s).commonAlarm = commonAlarmDriven s := rfl
@[simp] theorem settle_point (s : State) (p : PointNo) : (settle s).point p = s.point p := rfl
@[simp] theorem settle_area (s : State) (a : AreaNo) : (settle s).area a = s.area a := rfl
@[simp] theorem settle_record (s : State) (r : RecordNo) : (settle s).record r = s.record r := rfl
@[simp] theorem settle_desk (s : State) (c : Console) : (settle s).desk c = s.desk c := rfl

theorem settle_horn (s : State) (c : Console) : (settle s).horn c = { s.horn c with out := hornDriven s c } := by
  show (settle s).horns[c] = _
  simp only [settle]
  rw [table4_getElem]

theorem settle_port (s : State) (c : Console) : (settle s).port c = { s.port c with irq := (s.port c).lineDriven } := by
  show (settle s).ports[c] = _
  simp only [settle]
  rw [table4_getElem]

/-! ## Checks -/

/-- A request whose checks all pass is taken. -/
theorem decided_taken {s : State} {l : List Check} (h : firstFailure l = none) (k : State × Reply) :
    decided s l k = k := by
  simp [decided, h]

/-- A request with a failing check leaves the state as it was and is answered with the first that fails. -/
theorem decided_refused {s : State} {l : List Check} {rp : Reply} (h : firstFailure l = some rp) (k : State × Reply) :
    decided s l k = (s, rp) := by
  simp [decided, h]

/-- The checks of a list all pass exactly when none of them fails. -/
theorem firstFailure_none {l : List Check} : firstFailure l = none ↔ ∀ x ∈ l, x.1 = false := by
  induction l with
  | nil => simp [firstFailure]
  | cons x l ih =>
    obtain ⟨b, rp⟩ := x
    cases b <;> simp [firstFailure, ih]

/-- The checks of a request are the tests of its rule, in the same order. -/
def Spells (tests : List RequestTest) (l : List Check) : Prop :=
  List.Forall₂ (fun x k => (x.failsWhen ↔ k.1 = true) ∧ k.2 = ⟨x.status, x.record⟩) tests l

/-- What a list of tests says of the checks it spells: the first that fails is the reply, and none fails where no test
does. -/
theorem firstFailure_spelled {tests : List RequestTest} {l : List Check} (h : Spells tests l) :
    (∀ before after x, tests = before ++ x :: after → (∀ y ∈ before, ¬ y.failsWhen) → x.failsWhen →
      firstFailure l = some ⟨x.status, x.record⟩) ∧
    ((∀ x ∈ tests, ¬ x.failsWhen) → firstFailure l = none) := by
  induction h with
  | nil => exact ⟨fun b a x e => by simp at e, fun _ => rfl⟩
  | @cons t k tests l hk _ ih =>
    obtain ⟨b, rp⟩ := k
    obtain ⟨hf, rfl⟩ := hk
    dsimp only at hf
    have passes (hn : ¬ t.failsWhen) : b = false := Bool.not_eq_true b ▸ fun hb => hn (hf.2 hb)
    constructor
    · intro before after x e hb hx
      cases before with
      | nil =>
        obtain ⟨rfl, rfl⟩ := List.cons.inj e
        simp [firstFailure, hf.1 hx]
      | cons y before =>
        rw [List.cons_append, List.cons.injEq] at e
        obtain ⟨rfl, e⟩ := e
        simp only [firstFailure, passes (hb t (by simp))]
        exact ih.1 before after x e (fun y hy => hb y (by simp [hy])) hx
    · intro h
      simp only [firstFailure, passes (h t (by simp))]
      exact ih.2 fun x hx => h x (by simp [hx])

/-- R167, R168: what a request with a failing check leaves. -/
theorem request_refused {c : Console} {r : Request} {s : State} {body : State → State × Reply} {l : List Check}
    {k : State × Reply} {rp : Reply} (hb : body (frameArrives c s) = decided (frameArrives c s) l k)
    (h : firstFailure l = some rp) :
    request c r body s = .next (settle ((frameArrives c s).setPort c { (frameArrives c s).port c with
      response := responseOf rp.status r.tag rp.record, result := rp.record })) := by
  rw [request, hb, decided_refused h, answer, event]

/-- R167, R168: the status of the response of a request whose checks all pass is that of its effect. -/
theorem request_taken {c : Console} {r : Request} {s : State} {body : State → State × Reply} {l : List Check}
    {k : State × Reply} (hb : body (frameArrives c s) = decided (frameArrives c s) l k) (h : firstFailure l = none) :
    ∃ t, request c r body s = .next t ∧ (t.port c).response.status = k.2.status := by
  refine ⟨_, rfl, ?_⟩
  rw [hb, decided_taken h, settle_port, answer]
  simp [responseOf]

/-! ## The arrival of a frame -/

theorem setDesk_base (s : State) (c : Console) (d : Desk) : Base s (s.setDesk c d) := { Base.refl s with }

theorem heard_base (s : State) (c : Console) : Base s (s.heard c) := setDesk_base s c _

theorem returnConsole_kept (s : State) (c : Console) (t : Word32) : Kept (s.heard c) (returnConsole s c t) := by
  unfold returnConsole
  dsimp only
  have k := (reevaluateAll_kept _ (areasOfConsole (setFlagAt .presence allFour (offer (s.heard c) (journalRecord
      (s.heard c) .present .accountable c c 0#6 (s.operatorNumber c) t))) c)).after <|
    (setFlagAt_keeps .presence allFour _).after (offer_keeps (s.heard c) (journalRecord
      (s.heard c) .present .accountable c c 0#6 (s.operatorNumber c) t))
  split
  · exact k
  · exact k.trans (systemPoint_keeps ..)

/-- R111, R113: the arrival of a good frame writes what the presence monitor holds of its console, and, at the return
of an ABSENT console, has effects that keep the rest. -/
theorem frameArrives_kept (c : Console) (s : State) : Kept (s.heard c) (frameArrives c s) := by
  unfold frameArrives
  split
  · exact .refl _
  · exact returnConsole_kept ..

theorem frameArrives_base (c : Console) (s : State) : Base s (frameArrives c s) :=
  (heard_base s c).trans (frameArrives_kept c s).toBase

/-- R111: a frame from a PRESENT console restarts its timer and does no more. -/
theorem frameArrives_present {c : Console} {s : State} (h : s.presentAt c = true) : frameArrives c s = s.heard c := by
  unfold State.presentAt at h
  unfold frameArrives
  split <;> simp_all

@[simp] theorem frameArrives_mode (c : Console) (s : State) : (frameArrives c s).mode = s.mode :=
  (frameArrives_base c s).mode

@[simp] theorem frameArrives_roster (c : Console) (s : State) : (frameArrives c s).roster = s.roster :=
  (frameArrives_kept c s).roster

/-- A frame's arrival signs nobody on or off. -/
@[simp] theorem frameArrives_signedOn (c d : Console) (s : State) :
    ((frameArrives c s).desk d).signedOn = (s.desk d).signedOn := by
  have h : (frameArrives c s).desk d = (s.heard c).desk d := congrArg (fun v => v[d]) (frameArrives_kept c s).desks
  rw [h]
  unfold State.heard
  rw [State.desk_setDesk]
  split
  · next e => subst e; rfl
  · rfl

@[simp] theorem frameArrives_operatorAt (c d : Console) (s : State) :
    (frameArrives c s).operatorAt d = s.operatorAt d := by
  simp [State.operatorAt]

/-! ## An offer to a journal with room (R155) -/

theorem settle510_none {s : State} (h : s.journal.lossEvents = []) : settle510 s = s := by
  simp [settle510, give510, h]

/-- R157: with no event left point 510 is given none. -/
theorem lossEvents_of_eventsLeft {j : Journal} (h : j.eventsLeft = 0) : j.lossEvents = [] := by
  rw [← List.length_eq_zero_iff]
  simp only [Journal.eventsLeft] at h
  omega

/-- R157: point 510 takes its events one after another, and each leaves it fewer: a number that covers those left gives
them all, and no larger number gives more. -/
theorem give510_covers {n : Nat} {s : State} (h : s.journal.eventsLeft ≤ n) :
    (give510 n s).journal.lossEvents = [] ∧ give510 (n + 1) s = give510 n s := by
  induction n generalizing s with
  | zero =>
    have e := lossEvents_of_eventsLeft (Nat.le_zero.1 h)
    exact ⟨e, by simp [give510, e]⟩
  | succ n ih =>
    cases e : s.journal.lossEvents with
    | nil => exact ⟨by simp [give510, e], by simp [give510, e]⟩
    | cons i rest =>
      have hl : ({ s.journal with lossEvents := rest } : Journal).eventsLeft + 1 = s.journal.eventsLeft := by
        simp only [Journal.eventsLeft, lossPending_lossEvents, e, List.length_cons]
        omega
      have hp := (pointInput_seq offerRecord_seq { s with journal := { s.journal with lossEvents := rest } } 510 i
        .good).eventsLeft
      rw [give510, give510.eq_def (n + 1 + 1)]
      simp only [e]
      exact ih (by dsimp only at hl hp ⊢; omega)

/-- R155: a record offered while no loss is pending and there is room for its class joins the tail, and does no
more. -/
theorem offer_accepted {s : State} {r : JournalRecord} (hl : s.journal.lossPending = false)
    (he : s.journal.lossEvents = []) (hn : s.journal.fifo.length < classLimit r.cls) :
    offer s r = { s with journal := s.journal.accept r } := by
  have h1 : offerRecord s r = { s with journal := s.journal.accept r } := by
    simp [offerRecord, offerAlone, hl, hn]
  have h2 : (s.journal.accept r).lossEvents = [] := by
    simp [Journal.accept, kick_lossEvents, he]
  rw [offer, h1, settle510_none h2]

/-- R155: the same, of a journal that is calm. -/
theorem offer_calm {s : State} {r : JournalRecord} {n : Nat} (h : s.calm (n + 1)) :
    offer s r = { s with journal := s.journal.accept r } := by
  obtain ⟨hl, he, hn⟩ := h
  refine offer_accepted hl he ?_
  cases r.cls <;> simp only [classLimit] <;> omega

/-- A calm journal with one record more is calm for one fewer. -/
theorem calm_accept {s : State} {r : JournalRecord} {n : Nat} (h : s.calm (n + 1)) :
    State.calm { s with journal := s.journal.accept r } n := by
  obtain ⟨hl, he, hn⟩ := h
  refine ⟨?_, ?_, ?_⟩
  · simpa [Journal.lossPending, accept_dropRoutine, accept_dropAccountable] using hl
  · simp [Journal.accept, kick_lossEvents, he]
  · simp [accept_fifo]
    omega

/-! ## Ends of records, and what moves areas -/

theorem setRecord_base (s : State) (r : RecordNo) (h : HoRecord) : Base s (s.setRecord r h) := { Base.refl s with }

/-- An area whose configuration and load are kept. -/
theorem setArea_base (s : State) (a : AreaNo) (e : Area) (h : e.cfg = (s.area a).cfg) (hl : e.load = (s.area a).load) :
    Base s (s.setArea a e) :=
  { Base.refl s with
    areas := fun d => by
      rw [State.area_setArea]
      split
      · next x => subst x; exact h
      · rfl
    loads := fun k d => by
      rw [State.area_setArea]
      split
      · next x => subst x; rw [hl]; exact k a
      · exact k d }

theorem Base.foldl {α : Type} {f : State → α → State} (h : ∀ s x, Base s (f s x)) (l : List α) (s : State) :
    Base s (l.foldl f s) := by
  induction l generalizing s with
  | nil => exact .refl s
  | cons x l ih => exact (h s x).trans (ih _)

theorem releaseAreas_base (set : AreaSet) (o : Option Console) (s : State) : Base s (releaseAreas set o s) :=
  Base.foldl (fun s a => setArea_base s a _ (by rfl) (by rfl)) _ s

theorem giveAreas_base (set : AreaSet) (o : Console) (s : State) : Base s (giveAreas set o s) :=
  Base.foldl (fun s a => setArea_base s a _ (by rfl) (by rfl)) _ s

theorem nameRecord_base (set : AreaSet) (r : RecordNo) (s : State) : Base s (nameRecord set r s) :=
  Base.foldl (fun s a => setArea_base s a _ (by rfl) (by rfl)) _ s

/-- R102, R104: every effect of a record's end is on authority, attendance, points, flags and the journal. -/
theorem endRecord_base (s : State) (r : RecordNo) (o : HoOutcome) (k : HoCause) (c : Console) (op : Nat) :
    Base s (endRecord s r o k c op).state := by
  have h1 := releaseAreas_base (s.record r).areas (if o.isCommit then (s.record r).inConsole else none) s
  have h2 := (resolveAckSets_seq (s.record r).areas (survivor (s.record r) o).1 (survivor (s.record r) o).2
    (releaseAreas (s.record r).areas (if o.isCommit then (s.record r).inConsole else none) s)).toBase
  refine ((((((h1.trans h2).trans (recomputeScopes_kept _).toBase).trans
    (reevaluateAll_kept _ (members (s.record r).areas)).toBase).trans (offer_keeps _ _).toBase).trans
    (setRecord_base _ r _)).trans (setFlagParty_keeps ..).toBase).trans (setFlagParty_keeps ..).toBase

/-- What keeps the areas' records, and the records but for their confirmed items and hold, keeps them sound. -/
theorem Kept.recordsSound {s t : State} (k : Kept s t) (h : s.recordsSound) : t.recordsSound := by
  intro a n
  have phase : (t.record n).phase = (s.record n).phase := (HoRecord.mk.inj (k.records n)).1
  have areas : (t.record n).areas = (s.record n).areas := congrArg (·.areas) (k.records n)
  rw [k.record a, phase, areas]
  exact h a n

end Sys2Proof.Machine
end

