-- ==== Sys2Proof/Laws/PerInstr.lean ====
section
/-! SUPPORT. The statements that are made of every command, one lemma for each constructor. -/

namespace Sys2Proof.Laws

/-- 10.3, R173: the code, console and operand bytes that a well-formed command's frame carries are read back as that
command. -/
def FrameReadBack.Statement (i : Instr) : Prop :=
  i.wellFormed = true → ∀ c code r, frameOf i = some (c, code, r) → requestOf code c r = i

theorem FrameReadBack.nop (c : Console) (r : Request) : FrameReadBack.Statement (.nop c r) := by
  rintro - c' k x h
  obtain ⟨⟩ := h
  rfl

theorem FrameReadBack.readMore (c : Console) (r : Request) : FrameReadBack.Statement (.readMore c r) := by
  rintro - c' k x h
  obtain ⟨⟩ := h
  rfl

theorem FrameReadBack.portReset (c : Console) (r : Request) : FrameReadBack.Statement (.portReset c r) := by
  rintro - c' k x h
  obtain ⟨⟩ := h
  rfl

theorem FrameReadBack.readFlags (c : Console) (r : Request) : FrameReadBack.Statement (.readFlags c r) := by
  rintro - c' k x h
  obtain ⟨⟩ := h
  rfl

theorem FrameReadBack.clearFlags (c : Console) (r : Request) : FrameReadBack.Statement (.clearFlags c r) := by
  rintro - c' k x h
  obtain ⟨⟩ := h
  rfl

theorem FrameReadBack.setMask (c : Console) (r : Request) : FrameReadBack.Statement (.setMask c r) := by
  rintro - c' k x h
  obtain ⟨⟩ := h
  rfl

theorem FrameReadBack.readConditions (c : Console) (r : Request) : FrameReadBack.Statement (.readConditions c r) := by
  rintro - c' k x h
  obtain ⟨⟩ := h
  rfl

theorem FrameReadBack.signOn (c : Console) (r : Request) : FrameReadBack.Statement (.signOn c r) := by
  rintro - c' k x h
  obtain ⟨⟩ := h
  rfl

theorem FrameReadBack.signOff (c : Console) (r : Request) : FrameReadBack.Statement (.signOff c r) := by
  rintro - c' k x h
  obtain ⟨⟩ := h
  rfl

theorem FrameReadBack.readSignon (c : Console) (r : Request) : FrameReadBack.Statement (.readSignon c r) := by
  rintro - c' k x h
  obtain ⟨⟩ := h
  rfl

theorem FrameReadBack.readOperator (c : Console) (r : Request) : FrameReadBack.Statement (.readOperator c r) := by
  rintro - c' k x h
  obtain ⟨⟩ := h
  rfl

theorem FrameReadBack.ackPoint (c : Console) (r : Request) : FrameReadBack.Statement (.ackPoint c r) := by
  rintro - c' k x h
  obtain ⟨⟩ := h
  rfl

theorem FrameReadBack.ackArea (c : Console) (r : Request) : FrameReadBack.Statement (.ackArea c r) := by
  rintro - c' k x h
  obtain ⟨⟩ := h
  rfl

theorem FrameReadBack.ackAll (c : Console) (r : Request) : FrameReadBack.Statement (.ackAll c r) := by
  rintro - c' k x h
  obtain ⟨⟩ := h
  rfl

theorem FrameReadBack.silence (c : Console) (r : Request) : FrameReadBack.Statement (.silence c r) := by
  rintro - c' k x h
  obtain ⟨⟩ := h
  rfl

theorem FrameReadBack.listOpen (c : Console) (r : Request) : FrameReadBack.Statement (.listOpen c r) := by
  rintro - c' k x h
  obtain ⟨⟩ := h
  rfl

theorem FrameReadBack.listNext (c : Console) (r : Request) : FrameReadBack.Statement (.listNext c r) := by
  rintro - c' k x h
  obtain ⟨⟩ := h
  rfl

theorem FrameReadBack.readPoint (c : Console) (r : Request) : FrameReadBack.Statement (.readPoint c r) := by
  rintro - c' k x h
  obtain ⟨⟩ := h
  rfl

theorem FrameReadBack.readArea (c : Console) (r : Request) : FrameReadBack.Statement (.readArea c r) := by
  rintro - c' k x h
  obtain ⟨⟩ := h
  rfl

theorem FrameReadBack.readHorn (c : Console) (r : Request) : FrameReadBack.Statement (.readHorn c r) := by
  rintro - c' k x h
  obtain ⟨⟩ := h
  rfl

theorem FrameReadBack.lampTest (c : Console) (r : Request) : FrameReadBack.Statement (.lampTest c r) := by
  rintro - c' k x h
  obtain ⟨⟩ := h
  rfl

theorem FrameReadBack.shelve (c : Console) (r : Request) : FrameReadBack.Statement (.shelve c r) := by
  rintro - c' k x h
  obtain ⟨⟩ := h
  rfl

theorem FrameReadBack.unshelve (c : Console) (r : Request) : FrameReadBack.Statement (.unshelve c r) := by
  rintro - c' k x h
  obtain ⟨⟩ := h
  rfl

theorem FrameReadBack.readShelf (c : Console) (r : Request) : FrameReadBack.Statement (.readShelf c r) := by
  rintro - c' k x h
  obtain ⟨⟩ := h
  rfl

theorem FrameReadBack.rearmGroup (c : Console) (r : Request) : FrameReadBack.Statement (.rearmGroup c r) := by
  rintro - c' k x h
  obtain ⟨⟩ := h
  rfl

theorem FrameReadBack.readGroup (c : Console) (r : Request) : FrameReadBack.Statement (.readGroup c r) := by
  rintro - c' k x h
  obtain ⟨⟩ := h
  rfl

theorem FrameReadBack.readFlood (c : Console) (r : Request) : FrameReadBack.Statement (.readFlood c r) := by
  rintro - c' k x h
  obtain ⟨⟩ := h
  rfl

theorem FrameReadBack.takeover (c : Console) (r : Request) : FrameReadBack.Statement (.takeover c r) := by
  rintro - c' k x h
  obtain ⟨⟩ := h
  rfl

theorem FrameReadBack.hoOffer (c : Console) (r : Request) : FrameReadBack.Statement (.hoOffer c r) := by
  rintro - c' k x h
  obtain ⟨⟩ := h
  rfl

theorem FrameReadBack.hoAccept (c : Console) (r : Request) : FrameReadBack.Statement (.hoAccept c r) := by
  rintro - c' k x h
  obtain ⟨⟩ := h
  rfl

theorem FrameReadBack.hoDecline (c : Console) (r : Request) : FrameReadBack.Statement (.hoDecline c r) := by
  rintro - c' k x h
  obtain ⟨⟩ := h
  rfl

theorem FrameReadBack.hoWithdraw (c : Console) (r : Request) : FrameReadBack.Statement (.hoWithdraw c r) := by
  rintro - c' k x h
  obtain ⟨⟩ := h
  rfl

theorem FrameReadBack.hoPresent (c : Console) (r : Request) : FrameReadBack.Statement (.hoPresent c r) := by
  rintro - c' k x h
  obtain ⟨⟩ := h
  rfl

theorem FrameReadBack.hoConfirm (c : Console) (r : Request) : FrameReadBack.Statement (.hoConfirm c r) := by
  rintro - c' k x h
  obtain ⟨⟩ := h
  rfl

theorem FrameReadBack.hoRelease (c : Console) (r : Request) : FrameReadBack.Statement (.hoRelease c r) := by
  rintro - c' k x h
  obtain ⟨⟩ := h
  rfl

theorem FrameReadBack.hoUnrelease (c : Console) (r : Request) : FrameReadBack.Statement (.hoUnrelease c r) := by
  rintro - c' k x h
  obtain ⟨⟩ := h
  rfl

theorem FrameReadBack.hoTake (c : Console) (r : Request) : FrameReadBack.Statement (.hoTake c r) := by
  rintro - c' k x h
  obtain ⟨⟩ := h
  rfl

theorem FrameReadBack.hoForceCommit (c : Console) (r : Request) : FrameReadBack.Statement (.hoForceCommit c r) := by
  intro w c' k x h
  simp only [frameOf, Option.some.injEq, Prod.mk.injEq] at h
  obtain ⟨rfl, rfl, rfl⟩ := h
  simp only [Instr.wellFormed, beq_iff_eq] at w
  simp [requestOf, w]

theorem FrameReadBack.hoForceCancel (c : Console) (r : Request) : FrameReadBack.Statement (.hoForceCancel c r) := by
  intro w c' k x h
  simp only [frameOf, Option.some.injEq, Prod.mk.injEq] at h
  obtain ⟨rfl, rfl, rfl⟩ := h
  simp only [Instr.wellFormed, bne_iff_ne] at w
  simp [requestOf, w]

theorem FrameReadBack.hoRead (c : Console) (r : Request) : FrameReadBack.Statement (.hoRead c r) := by
  rintro - c' k x h
  obtain ⟨⟩ := h
  rfl

theorem FrameReadBack.setTime (c : Console) (r : Request) : FrameReadBack.Statement (.setTime c r) := by
  rintro - c' k x h
  obtain ⟨⟩ := h
  rfl

theorem FrameReadBack.journalStart (c : Console) (r : Request) : FrameReadBack.Statement (.journalStart c r) := by
  rintro - c' k x h
  obtain ⟨⟩ := h
  rfl

theorem FrameReadBack.journalStop (c : Console) (r : Request) : FrameReadBack.Statement (.journalStop c r) := by
  rintro - c' k x h
  obtain ⟨⟩ := h
  rfl

theorem FrameReadBack.journalClear (c : Console) (r : Request) : FrameReadBack.Statement (.journalClear c r) := by
  rintro - c' k x h
  obtain ⟨⟩ := h
  rfl

theorem FrameReadBack.journalReset (c : Console) (r : Request) : FrameReadBack.Statement (.journalReset c r) := by
  rintro - c' k x h
  obtain ⟨⟩ := h
  rfl

theorem FrameReadBack.readJournal (c : Console) (r : Request) : FrameReadBack.Statement (.readJournal c r) := by
  rintro - c' k x h
  obtain ⟨⟩ := h
  rfl

theorem FrameReadBack.readLinkCounts (c : Console) (r : Request) : FrameReadBack.Statement (.readLinkCounts c r) := by
  rintro - c' k x h
  obtain ⟨⟩ := h
  rfl

theorem FrameReadBack.cfgPoint (c : Console) (r : Request) : FrameReadBack.Statement (.cfgPoint c r) := by
  rintro - c' k x h
  obtain ⟨⟩ := h
  rfl

theorem FrameReadBack.cfgArea (c : Console) (r : Request) : FrameReadBack.Statement (.cfgArea c r) := by
  rintro - c' k x h
  obtain ⟨⟩ := h
  rfl

theorem FrameReadBack.cfgOperator (c : Console) (r : Request) : FrameReadBack.Statement (.cfgOperator c r) := by
  rintro - c' k x h
  obtain ⟨⟩ := h
  rfl

theorem FrameReadBack.cfgTiming (c : Console) (r : Request) : FrameReadBack.Statement (.cfgTiming c r) := by
  rintro - c' k x h
  obtain ⟨⟩ := h
  rfl

theorem FrameReadBack.cfgFlood (c : Console) (r : Request) : FrameReadBack.Statement (.cfgFlood c r) := by
  rintro - c' k x h
  obtain ⟨⟩ := h
  rfl

theorem FrameReadBack.cfgLinks (c : Console) (r : Request) : FrameReadBack.Statement (.cfgLinks c r) := by
  rintro - c' k x h
  obtain ⟨⟩ := h
  rfl

theorem FrameReadBack.cfgBoard (c : Console) (r : Request) : FrameReadBack.Statement (.cfgBoard c r) := by
  rintro - c' k x h
  obtain ⟨⟩ := h
  rfl

theorem FrameReadBack.cfgClock (c : Console) (r : Request) : FrameReadBack.Statement (.cfgClock c r) := by
  rintro - c' k x h
  obtain ⟨⟩ := h
  rfl

theorem FrameReadBack.commitConfig (c : Console) (r : Request) : FrameReadBack.Statement (.commitConfig c r) := by
  rintro - c' k x h
  obtain ⟨⟩ := h
  rfl

theorem FrameReadBack.restart (c : Console) (r : Request) : FrameReadBack.Statement (.restart c r) := by
  rintro - c' k x h
  obtain ⟨⟩ := h
  rfl

theorem FrameReadBack.reconfigure (c : Console) (r : Request) : FrameReadBack.Statement (.reconfigure c r) := by
  rintro - c' k x h
  obtain ⟨⟩ := h
  rfl

theorem FrameReadBack.badCheck (c : Console) (tag : Byte) : FrameReadBack.Statement (.badCheck c tag) := by
  rintro - c' k x h
  cases h

theorem FrameReadBack.badCommand (c : Console) (code : Byte) (r : Request) : FrameReadBack.Statement (.badCommand c code r) := by
  intro w c' k x h
  simp only [frameOf, Option.some.injEq, Prod.mk.injEq] at h
  obtain ⟨rfl, rfl, rfl⟩ := h
  simp only [Instr.wellFormed, Bool.not_eq_true'] at w
  unfold requestOf
  split <;> first
    | rfl
    | next e =>
      have hb : code = BitVec.ofNat 8 code.toNat := by simp
      rw [e] at hb
      subst hb
      exact absurd w (by decide)

theorem FrameReadBack.shortFrame (c : Console) : FrameReadBack.Statement (.shortFrame c) := by
  rintro - c' k x h
  cases h

theorem FrameReadBack.powerOn : FrameReadBack.Statement (.powerOn) := by
  rintro - c' k x h
  cases h

theorem FrameReadBack.millisecondTick (ready : Bool) : FrameReadBack.Statement (.millisecondTick ready) := by
  rintro - c' k x h
  cases h

theorem FrameReadBack.secondsTick (timersFirst : Bool) : FrameReadBack.Statement (.secondsTick timersFirst) := by
  rintro - c' k x h
  cases h

theorem FrameReadBack.slotBoundary : FrameReadBack.Statement (.slotBoundary) := by
  rintro - c' k x h
  cases h

theorem FrameReadBack.chirpEnd (c : Console) : FrameReadBack.Statement (.chirpEnd c) := by
  rintro - c' k x h
  cases h

theorem FrameReadBack.consoleAbsent : FrameReadBack.Statement (.consoleAbsent) := by
  rintro - c' k x h
  cases h

theorem FrameReadBack.escalate : FrameReadBack.Statement (.escalate) := by
  rintro - c' k x h
  cases h

theorem FrameReadBack.expire : FrameReadBack.Statement (.expire) := by
  rintro - c' k x h
  cases h

theorem FrameReadBack.hoLapse : FrameReadBack.Statement (.hoLapse) := by
  rintro - c' k x h
  cases h

theorem FrameReadBack.linkLost : FrameReadBack.Statement (.linkLost) := by
  rintro - c' k x h
  cases h

theorem FrameReadBack.fieldByte (b : Byte) : FrameReadBack.Statement (.fieldByte b) := by
  rintro - c' k x h
  cases h

theorem FrameReadBack.fieldLineError : FrameReadBack.Statement (.fieldLineError) := by
  rintro - c' k x h
  cases h

theorem FrameReadBack.fieldRecord (kind : Byte) (pointHi : Byte) (pointLo : Byte) (state : Byte) (seq : Byte) : FrameReadBack.Statement (.fieldRecord kind pointHi pointLo state seq) := by
  rintro - c' k x h
  cases h

theorem FrameReadBack.boardFrame : FrameReadBack.Statement (.boardFrame) := by
  rintro - c' k x h
  cases h

theorem FrameReadBack.deskLineChange (d : Console) (b : Button) (l : Level) : FrameReadBack.Statement (.deskLineChange d b l) := by
  rintro - c' k x h
  cases h

theorem FrameReadBack.deskAckPress (d : Console) : FrameReadBack.Statement (.deskAckPress d) := by
  rintro - c' k x h
  cases h

theorem FrameReadBack.deskSilencePress (d : Console) : FrameReadBack.Statement (.deskSilencePress d) := by
  rintro - c' k x h
  cases h

theorem FrameReadBack.deskTestPress (d : Console) : FrameReadBack.Statement (.deskTestPress d) := by
  rintro - c' k x h
  cases h

theorem FrameReadBack.deskTestRelease (d : Console) : FrameReadBack.Statement (.deskTestRelease d) := by
  rintro - c' k x h
  cases h

theorem FrameReadBack.deskButtonRelease (d : Console) (b : Button) : FrameReadBack.Statement (.deskButtonRelease d b) := by
  rintro - c' k x h
  cases h

theorem FrameReadBack.journalRecordSent (ready : Bool) : FrameReadBack.Statement (.journalRecordSent ready) := by
  rintro - c' k x h
  cases h

theorem FrameReadBack.journalReadyResume : FrameReadBack.Statement .journalReadyResume := by
  rintro - c' k x h
  cases h

theorem FrameReadBack.filler : FrameReadBack.Statement (.filler) := by
  rintro - c' k x h
  cases h

theorem FrameReadBack.journalByteSent (ready : Bool) : FrameReadBack.Statement (.journalByteSent ready) := by
  rintro - c' k x h
  cases h

end Sys2Proof.Laws
end

