-- ==== Sys2Proof/Tests/Slice0.lean ====
section
/-! SUPPORT. Tests. The checks of WellFormed with a term that each refuses; values worked in the spec; and, for each
statement with hypotheses, a state and operands that meet them (`test_<Name>_hypotheses`), clause by clause. -/

open Sys2Proof Sys2Proof.Machine

namespace Sys2Proof.Tests

set_option maxRecDepth 100000
set_option Elab.async false

/-! ## Well-formed commands -/

/-- A request with tag 0x11. -/
def ask (b3 b4 b5 b6 b7 : Byte) : Request := ⟨0x11#8, b3, b4, b5, b6, b7⟩

/-- HO_FORCE_COMMIT has action byte 0. -/
theorem test_forceCommit_wants_action_0 :
    (Instr.hoForceCommit 0 (ask 0 1 0 0 0)).wellFormed = false ∧ (Instr.hoForceCommit 0 (ask 0 0 0 0 0)).wellFormed = true := by
  decide

/-- HO_FORCE_CANCEL has another action byte. -/
theorem test_forceCancel_wants_another_action :
    (Instr.hoForceCancel 0 (ask 0 0 0 0 0)).wellFormed = false ∧ (Instr.hoForceCancel 0 (ask 0 1 0 0 0)).wellFormed = true := by
  decide

/-- BAD_COMMAND has a code that the command table does not list. -/
theorem test_badCommand_wants_an_unlisted_code :
    (Instr.badCommand 0 0x00#8 (ask 0 0 0 0 0)).wellFormed = false ∧
      (Instr.badCommand 0 0xFF#8 (ask 0 0 0 0 0)).wellFormed = true := by
  decide

/-- The release of a TEST button is DESK_TEST_RELEASE. -/
theorem test_buttonRelease_is_not_of_test :
    (Instr.deskButtonRelease 2 .test).wellFormed = false ∧ (Instr.deskButtonRelease 2 .ack).wellFormed = true := by
  decide

/-! ## States -/

/-- Supervisor 0881 at console 0. -/
def lead : Operator := ⟨881, .supervisor, 0xFF#8, some 0⟩

/-- Operators 1207 at console 1 and 0415 at console 2, and trainee 0099 at console 3. -/
def one : Operator := ⟨1207, .operator, 0x7F#8, some 1⟩

@[inherit_doc one] def two : Operator := ⟨415, .operator, 0x7F#8, some 2⟩

@[inherit_doc one] def learner : Operator := ⟨99, .trainee, 0x7F#8, some 3⟩

/-- A point of area 0. -/
def pt (pr : Priority) (g : Fin 9) (i : Input) (st : Annunciation) (n : Option Nat) : Point :=
  { Point.reset with
    configured := true, priority := pr, group := g, shelvable := true, input := i, quality := .good, state := st
    serial := n }

/-- IN_SERVICE, every desk staffed; console 1 owns area 0 and area 1, console 2 area 2. Points 0 to 5 stand in area 0:
RAISED, RETURNED, STANDING, SHELVED, and two NORMAL. Group 1 is TRIPPED by point 0. -/
def staffed : State :=
  { State.reset with
    mode := .inService
    roster := (((State.reset.roster.set 0 (some lead)).set 1 (some one)).set 2 (some two)).set 3 (some learner)
    desks := #v[⟨.present (some 2000#32), 0#32, some 0⟩, ⟨.present (some 2000#32), 0#32, some 1⟩,
      ⟨.present (some 2000#32), 0#32, some 2⟩, ⟨.present (some 2000#32), 0#32, some 3⟩]
    areas := ((State.reset.areas.set 0
        { Area.reset with
          owner := 1, attendance := .attended, unack := ⟨1, 0, 1, 0⟩, standing := 1, shelved := 1 }).set 1
        { Area.reset with owner := 1, attendance := .attended }).set 2 { Area.reset with owner := 2 }
    points := (((((State.reset.points.set 0 (pt .p1 1 .active .raised (some 1))).set 1
        (pt .p3 0 .normal .returned (some 2))).set 2 (pt .p2 0 .active .standing (some 3))).set 3
        (pt .p4 0 .normal .shelved none)).set 4 (pt .p4 1 .normal .normal none)).set 5 (pt .p1 2 .normal .normal none)
    serialNext := 4
    groups := State.reset.groups.set 0 (.tripped 0)
    shelf := [⟨3, 60000#32, 1, 1207⟩]
    horns := #v[.reset 0xFFFFF8#24, .reset 0x000003#24, .reset 0x000004#24, .reset 0#24]
    receiver := { State.reset.receiver with framing := .locked [], link := .ok (some 3000#32) } }

/-- A record between console 1 (outgoing, operator 1207) and console 2 (incoming) over area 0. -/
def review : HoRecord :=
  { HoRecord.reset with
    phase := .reviewing, outConsole := some 1, outOperator := some 1207, inConsole := some 2, inOperator := some 415
    areas := 1#24, presented := 3#16, confirmed := 3#16, release := true, timer := 1 }

/-- `staffed` with a handover record 0 over area 0, whose joint ack mode is BOTH_P1. -/
def withRecord (h : HoRecord) : State :=
  { staffed with
    records := staffed.records.set 0 h
    areas := staffed.areas.set 0 { staffed.area 0 with record := some 0, jointAck := .bothP1 } }

/-- `staffed` with nobody signed on at a console. -/
def leave (c : Console) (s : State) : State := s.setDesk c { s.desk c with signedOn := none }

/-- `staffed` at a run clock. -/
def at_ (t : Word32) (s : State) : State := { s with time := { s.time with runClock := t } }

/-- IN_SERVICE with an OPERATOR or SUPERVISOR at consoles 0, 1 and 2. -/
theorem test_staffed_ready : staffed.supervisorReady ∧ staffed.operatorReady 0 ∧ staffed.operatorReady 1 ∧
    staffed.operatorReady 2 := by
  unfold State.supervisorReady State.operatorReady
  decide +kernel

/-- The same with a handover record. -/
theorem test_withRecord_ready (h : HoRecord) : (withRecord h).supervisorReady ∧ (withRecord h).operatorReady 1 ∧
    (withRecord h).operatorReady 2 := test_staffed_ready |> fun ⟨a, _, b, c⟩ => ⟨a, b, c⟩

/-! ## Hypotheses of the statements -/

theorem test_StepRunsTheFrontCommand_hypotheses : State.reset.pending = [] := rfl

theorem test_FramesReadBack_hypotheses :
    (Instr.ackPoint 1 (ask 1 255 1 0 9)).wellFormed = true ∧
      encodeFrame (.ackPoint 1 (ask 1 255 1 0 9)) = some (1, [0x20, 0x11, 1, 255, 1, 0, 9, 0xC7]) := by
  decide

theorem test_EveryFrameIsRead_hypotheses :
    byteXor [0x20, 0x11, 1, 255, 1, 0, 9, 0xC7] = 0#8 ∧ byteXor [0x20, 0x11, 1, 255, 1, 0, 9, 0xC6] ≠ 0#8 ∧ 7 < 8 ∧
      8 ≤ 8 ∧ 7 ≠ 0 := by
  decide

/-- `staffed` with console 3 ABSENT, and with console 2 ABSENT as well. -/
def away : State := staffed.setDesk 3 ⟨.absent 5#32, 0#32, some 3⟩

@[inherit_doc away] def twoAway : State := away.setDesk 2 ⟨.absent 5#32, 0#32, some 2⟩

theorem test_PortsAnswerTheirFrames_hypotheses :
    (staffed.desk 1).presence = .present (some 2000#32) ∧
    ((away.desk 3).presence = .absent 5#32 ∧ ∀ d : Console, d ≠ 3 → away.presentAt d = true) ∧
    ((twoAway.desk 3).presence = .absent 5#32 ∧ (2 : Console) ≠ 3 ∧ twoAway.presentAt 2 = false) := by
  decide +kernel

theorem test_FlagAndConditionRequests_hypotheses : staffed.mode = .inService := rfl

theorem test_RefusedRequestsChangeNothing_hypotheses :
    frameOf (.clearFlags 1 (ask 0 0 0 0 0)) = some (1, 0x04#8, ask 0 0 0 0 0) ∧
      (∃ t, exec (.clearFlags 1 (ask 0 0 0 0 0)) State.reset = .next t ∧ (t.port 1).response.status = .wrongMode) ∧
      (Instr.clearFlags 1 (ask 0 0 0 0 0)).wellFormed = true ∧
      ∀ x ∈ requestTests (frameArrives 1 staffed) 1 0x04#8 (ask 0 0 0 0 0), ¬ x.failsWhen := by
  refine ⟨by decide, ⟨_, rfl, by decide +kernel⟩, rfl, fun x hx => ?_⟩
  obtain rfl := List.mem_singleton.mp hx
  show ¬ (frameArrives 1 staffed).mode = .configuring
  simp [staffed]

/-- The first test that a request fails, by a number of tests passed before it: the status and the record. -/
def FailsAfter (s : State) (c : Console) (code : Byte) (r : Request) (n : Nat) (st : Status) (record : List Byte) : Prop :=
  ∃ before after x, requestTests (frameArrives c s) c code r = before ++ x :: after ∧ before.length = n ∧
    (∀ y ∈ before, ¬ y.failsWhen) ∧ x.failsWhen ∧ x.status = st ∧ x.record = record

/-- Requests that fail the first test, the operator tests, the supervisor tests and an operand test: READ_MORE,
COMMIT_CONFIG, SHELVE by a trainee and by nobody, TAKEOVER from console 1, and READ_POINT of point 512. -/
theorem test_RefusedRequestsChangeNothing_tests :
    FailsAfter staffed 1 0x01#8 (ask 4 0 0 0 0) 0 .badOperand [] ∧
    FailsAfter staffed 0 0x68#8 (ask 0 0 0 0 0) 0 .wrongMode [] ∧
    FailsAfter (leave 1 staffed) 1 0x30#8 (ask 0 0 0 0 0) 1 .notSignedOn [] ∧
    FailsAfter staffed 3 0x30#8 (ask 0 0 0 0 0) 2 .role [] ∧
    FailsAfter staffed 1 0x36#8 (ask 0 0 0 0 0) 1 .noAuthority [] ∧
    FailsAfter staffed 1 0x26#8 (ask 2 0 0 0 0) 0 .badOperand [] := by
  have m (c : Console) (s : State) (h : s.mode = .inService) : ¬ (serviceTest (frameArrives c s)).failsWhen := by
    simp [serviceTest, h]
  refine ⟨⟨[], _, _, rfl, rfl, by simp, (by decide : 3 < (4#8).toNat), rfl, rfl⟩,
    ⟨[], _, _, rfl, rfl, by simp, ?_, rfl, rfl⟩,
    ⟨[_], _, _, rfl, rfl, fun y hy => ?_, ?_, rfl, rfl⟩, ⟨[_, _], _, _, rfl, rfl, fun y hy => ?_, ?_, rfl, rfl⟩,
    ⟨[_], _, _, rfl, rfl, fun y hy => ?_, ?_, rfl, rfl⟩,
    ⟨[], _, _, rfl, rfl, by simp, .inl (by decide : 511 < num16 2#8 0#8), rfl, rfl⟩⟩
  · exact frameArrives_mode 0 staffed
  · obtain rfl := List.mem_singleton.mp hy
    exact m 1 _ rfl
  · exact (frameArrives_operatorAt 1 1 (leave 1 staffed)).trans (by decide +kernel)
  · rcases List.mem_cons.mp hy with rfl | hy
    · exact m 3 _ rfl
    · obtain rfl := List.mem_singleton.mp hy
      exact fun h => absurd ((frameArrives_operatorAt 3 3 staffed).symm.trans h) (by decide +kernel)
  · exact ⟨learner, (frameArrives_operatorAt 3 3 staffed).trans (by decide +kernel), rfl⟩
  · obtain rfl := List.mem_singleton.mp hy
    exact m 1 _ rfl
  · exact (by decide : (1 : Console) ≠ 0)

theorem test_TableReaders_hypotheses :
    ((ask 3 0 0 0 0).b3.toNat = (3 : Console).val ∧ (staffed.desk 3).signedOn = some 3 ∧
      (frameArrives 1 staffed).roster[(3 : SlotNo)] = some learner ∧ ((leave 0 staffed).desk 0).signedOn = none) ∧
    (ask 63 0 0 0 0).b3.toNat = (63 : SlotNo).val ∧
    (num16 (ask 1 255 4 0 0).b3 (ask 1 255 4 0 0).b4 = (511 : PointNo).val ∧ (ask 1 255 4 0 0).b5 = 4#8 ∧
      (ask 1 255 0 0 0).b5 = 0#8) ∧
    (ask 23 3 0 0 0).b3.toNat = (23 : AreaNo).val ∧ (ask 23 3 0 0 0).b4 = 3#8 ∧ (ask 23 0 0 0 0).b4 = 0#8 := by
  decide +kernel

theorem test_BlockReaders_hypotheses :
    (ask 3 0 0 0 0).b3.toNat = (3 : Console).val ∧
    ((frameArrives 1 staffed).shelf[(ask 0 0 0 0 0).b3.toNat]? = some ⟨3, 60000#32, 1, 1207⟩ ∧
      (frameArrives 1 staffed).shelf.length ≤ (ask 31 0 0 0 0).b3.toNat ∧ (ask 31 0 0 0 0).b3.toNat ≤ 31) ∧
    (ask 8 0 0 0 0).b3.toNat = (7 : GroupNo).val + 1 ∧ (ask 23 0 0 0 0).b3.toNat = (23 : AreaNo).val ∧
    (ask 24 0 0 0 0).b3.toNat = 24 ∧ (ask 25 0 0 0 0).b3.toNat = 25 ∧ (ask 26 0 0 0 0).b3.toNat = 26 ∧
    (ask 27 0 0 0 0).b3.toNat = 27 ∧ (ask 28 0 0 0 0).b3.toNat = 28 := by
  decide +kernel

theorem test_RecordJournalAndLinkReaders_hypotheses :
    ((ask 3 3 0 0 0).b3.toNat = (3 : RecordNo).val ∧ (ask 3 3 0 0 0).b4 = 3#8 ∧ (ask 3 0 0 0 0).b4 = 0#8) ∧
      (ask 0 0 0 0 0).b3 = 0#8 ∧ (ask 1 0 0 0 0).b3 = 1#8 ∧ (ask 0 0 0 0 0).b3.toNat = 0 ∧
      (ask 1 0 0 0 0).b3.toNat = 1 := by
  decide

/-- Operator 1207 signed off. -/
def signedOff : State := { leave 1 staffed with roster := staffed.roster.set 1 (some { one with console := none }) }

theorem test_SignOnTaken_hypotheses :
    signedOff.mode = .inService ∧ 1 ≤ one.number ∧ one.number ≤ 9999 ∧ num16 4#8 183#8 = one.number ∧
    signedOff.roster[(1 : SlotNo)] = some { one with console := none } ∧
    (∀ (j : SlotNo) (o : Operator), signedOff.roster[j] = some o → o.number = one.number → j = 1) ∧
    (signedOff.desk 1).signedOn = none := by
  refine ⟨rfl, by decide, by decide, by decide, by decide +kernel, ?_, by decide +kernel⟩
  have h : ∀ j : SlotNo, (signedOff.roster[j]).all (fun o => o.number != 1207 || j == 1) = true := by decide +kernel
  intro j o ho hn
  have hj := h j
  rw [ho] at hj
  have hn' : o.number = 1207 := hn
  simpa [hn'] using hj

theorem test_SignOffTaken_hypotheses :
    (staffed.mode = .inService ∧ (staffed.desk 1).signedOn = some 1 ∧ staffed.roster[(1 : SlotNo)] = some one) ∧
      State.reset.mode = .configuring ∧ ((leave 1 staffed).desk 1).signedOn = none := by
  decide +kernel

/-- `staffed` with an area ESCALATED. -/
def escalatedIn (a : AreaNo) (s : State) : State := s.setArea a { s.area a with attendance := .escalated 7#32 }

/-- An ESCALATED area is found as such. -/
theorem escalated_found {e : Area} {u : Word32} (h : e.attendance = .escalated u) : e.isEscalated = true := by
  simp [Area.isEscalated, h]

theorem test_ReevaluationFollowsTheTable_hypotheses :
    (((escalatedIn 0 staffed).area 0).attendance = .escalated 7#32 ∧
      attendanceTest (escalatedIn 0 staffed) 0 = true ∧
      ∀ b u, b ≠ 0 → ((escalatedIn 0 staffed).area b).attendance ≠ .escalated u) ∧
    ((1 : AreaNo) ≠ 0 ∧ ((escalatedIn 1 (escalatedIn 0 staffed)).area 1).attendance = .escalated 7#32 ∧
      ((escalatedIn 1 (escalatedIn 0 staffed)).area 0).attendance = .escalated 7#32 ∧
      attendanceTest (escalatedIn 1 (escalatedIn 0 staffed)) 0 = true) := by
  refine ⟨⟨by decide +kernel, by decide +kernel, fun b u hb hu => ?_⟩, by decide +kernel⟩
  have h : ∀ b, b ≠ 0 → ((escalatedIn 0 staffed).area b).isEscalated = false := by decide +kernel
  exact absurd (escalated_found hu) (by simp [h b hb])

/-- The record's area in REVIEWING, and the same with console 2 in the ack set of point 0. -/
def half : State := (withRecord review).putPoint 0 { staffed.point 0 with ackSet := [2] }

theorem test_AckPointTaken_hypotheses :
    staffed.operatorReady 1 ∧ num16 0#8 0#8 = (0 : PointNo).val ∧
    (((frameArrives 1 staffed).point 0).configured = true ∧ ((frameArrives 1 staffed).point 0).state = .raised ∧
      ackStanding (frameArrives 1 staffed) 1 0 = .sole) ∧
    (ackStanding (frameArrives 1 half) 1 0 = .party ∧ ((frameArrives 1 half).area 0).jointAck = .bothP1 ∧
      ((frameArrives 1 half).point 0).ackSet = [2]) ∧
    (ackStanding (frameArrives 1 (withRecord review)) 1 0 = .party ∧
      ((frameArrives 1 (withRecord review)).point 0).ackSet = [] ∧
      ((frameArrives 1 (withRecord review)).point 0).priority = .p1) ∧
    (ask 0 0 1 0 0).b5.getLsbD 0 = true ∧ (ask 0 0 0 0 0).b5.getLsbD 0 = false ∧ staffed.operatorReady 0 ∧
      staffed.supervisorAt 0 = true := by
  refine ⟨test_staffed_ready.2.2.1, by decide, by decide +kernel, by decide +kernel, by decide +kernel, by decide,
    by decide, test_staffed_ready.2.1, by decide +kernel⟩

/-- `staffed` with an OPERATOR in place of the supervisor at console 0. -/
def unled : State := { staffed with roster := staffed.roster.set 0 (some { lead with role := .operator }) }

theorem test_AckRefusals_hypotheses :
    State.reset.mode = .configuring ∧ (leave 1 staffed).nobodyAt 1 = true ∧ staffed.traineeAt 3 = true ∧
    staffed.operatorReady 2 ∧ ackStanding (frameArrives 2 staffed) 2 0 = .none ∧
    staffed.operatorReady 1 ∧ ackStanding (frameArrives 1 staffed) 1 0 ≠ .none ∧
    ((frameArrives 1 staffed).point 4).state = .normal ∧ ((frameArrives 1 staffed).point 2).state = .standing ∧
    ((frameArrives 1 staffed).point 3).state = .shelved ∧ ((frameArrives 1 staffed).point 3).configured = true ∧
    ((ask 0 0 0xFF 0 0).b5.getLsbD 0 = true ∧ (ask 0 0 0xFE 0 0).b5.getLsbD 0 = false ∧ (2 : Console) ≠ 0) ∧
    (512 ≤ num16 2#8 0#8 ∧ ((frameArrives 1 staffed).point 511).configured = false ∧
      num16 1#8 255#8 = (511 : PointNo).val ∧ 24 ≤ (24#8).toNat ∧ (23#8).toNat = (23 : AreaNo).val) ∧
    (staffed.supervisorAt 0 = true ∧ staffed.operatorReady 0) ∧
    (ackStanding (frameArrives 2 half) 2 0 = .party ∧ ((frameArrives 2 half).area 0).jointAck = .bothP1 ∧
      ((frameArrives 2 half).point 0).priority = .p1 ∧ 2 ∈ ((frameArrives 2 half).point 0).ackSet) ∧
    (unled.operatorReady 0 ∧ unled.supervisorAt 0 = false) := by
  refine ⟨rfl, by decide +kernel, by decide +kernel, test_staffed_ready.2.2.2, by decide +kernel,
    test_staffed_ready.2.2.1, by decide +kernel, by decide +kernel, by decide +kernel, by decide +kernel,
    by decide +kernel, by decide, by decide +kernel,
    ⟨by decide +kernel, test_staffed_ready.2.1⟩, by decide +kernel, ?_⟩
  unfold State.operatorReady
  decide +kernel

/-- 1.6: the standing of the owner, of a party and of neither, and in OFFERED the owner's and the incoming console's. -/
theorem test_standing :
    (ackStanding staffed 1 0, ackStanding staffed 2 0) = (.sole, .none) ∧
    (ackStanding half 1 0, ackStanding half 2 0, ackStanding half 0 0) = (.party, .party, .none) ∧
    (ackStanding (withRecord { review with phase := .offered }) 1 0,
      ackStanding (withRecord { review with phase := .offered }) 2 0) = (.sole, .none) := by
  decide +kernel

/-- A state with a button's line low for 20 ms, and with it high for 20 ms after a debounced press. -/
def pressed (c : Console) (b : Button) (s : State) : State :=
  at_ 20#32 (s.setDeskLine c b ⟨.pressed, .released, .pressed, 0#32⟩)

@[inherit_doc pressed] def let_go (c : Console) (b : Button) (s : State) : State :=
  at_ 20#32 (s.setDeskLine c b ⟨.released, .pressed, .released, 0#32⟩)

theorem test_AckAreaAllAndPress_hypotheses :
    staffed.operatorReady 1 ∧ (ask 0 0 0 0 0).b3.toNat = (0 : AreaNo).val ∧
    ackStanding (frameArrives 1 staffed) 1 0 ≠ .none ∧ lineDue (pressed 1 .ack staffed) 1 .ack .pressed = true ∧
    ((pressed 1 .ack staffed).nobodyAt 1 = false ∧ (pressed 1 .ack staffed).traineeAt 1 = false) ∧
    (lineDue (pressed 3 .ack staffed) 3 .ack .pressed = true ∧ (pressed 3 .ack staffed).traineeAt 3 = true) ∧
    (pressed 1 .ack (leave 1 staffed)).nobodyAt 1 = true ∧
    ((staffed.point 4).state ≠ .raised ∧ (staffed.point 4).state ≠ .returned) ∧
    (let joint (t : State) (c : Console) : Prop := ackStanding t c (t.point 0).area = .party ∧
      (t.area (t.point 0).area).jointAck = .bothP1 ∧ (t.point 0).priority = .p1
    (¬ joint staffed 1 ∧ (staffed.point 0).state = .raised ∧ (staffed.point 1).state = .returned) ∧
    (joint (withRecord review) 1 ∧ ((withRecord review).point 0).ackSet = []) ∧
    (joint half 1 ∧ (half.point 0).ackSet ≠ [] ∧ 1 ∉ (half.point 0).ackSet) ∧
    (joint half 2 ∧ 2 ∈ (half.point 0).ackSet)) := by
  refine ⟨test_staffed_ready.2.2.1, by decide, by decide +kernel⟩

/-- `staffed` with point 0, the first of the TRIPPED group 1, in another state and with another input. -/
def firstAt (st : Annunciation) (i : Input) : State :=
  staffed.putPoint 0 { staffed.point 0 with state := st, input := i, firstMark := some .first }

/-- A point is a member of a first-out group. -/
abbrev Member (g : GroupNo) (x : Point) : Prop := x.configured = true ∧ x.group.val = g.val + 1

/-- Every member of group 1 but point 0 is NORMAL in `firstAt`. -/
theorem others_normal {st : Annunciation} {i : Input} {p : PointNo} (h : p ≠ 0)
    (m : Member 0 ((firstAt st i).point p)) : ((firstAt st i).point p).state = .normal := by
  have hp : (firstAt st i).point p = staffed.point p := by
    simp [firstAt, State.putPoint, State.point, show ¬ 0 = p.val from fun e => h (Fin.ext e.symm)]
  have k := forall_points (s := staffed)
    (f := fun p q => p == 0 || !(q.configured && q.group.val == 1) || q.state == .normal) (by decide +kernel) p
  rw [hp] at m ⊢
  simpa [h, m.1, m.2] using k

/-- Nothing is pending, and the FIFO is empty. -/
theorem test_staffed_calm : staffed.calm 3 ∧ staffed.calm 1 ∧ (withRecord review).calm 1 ∧ half.calm 1 ∧ half.calm 3 ∧
    (firstAt .returned .normal).calm 1 ∧ (firstAt .standing .active).calm 1 := by
  unfold State.calm
  decide +kernel

theorem test_AcknowledgementCompletes_hypotheses :
    half.calm 1 ∧ (half.point 0).configured = true ∧ (half.point 0).state = .raised ∧ (half.point 0).ackSet = [2] ∧
      (half.point 1).state = .returned ∧ (half.point 1).configured = true ∧
    (let s := firstAt .returned .normal
    s.calm 1 ∧ (∀ p', p' ≠ 0 → Member 0 (s.point p') → (s.point p').state = .normal) ∧
      (s.point 0).state = .returned ∧ Member 0 (s.point 0) ∧ s.groups[(0 : GroupNo)] ≠ .armed ∧
      ∀ g, ¬ Member g (s.point 1)) :=
  ⟨test_staffed_calm.2.2.2.1, by decide +kernel, by decide +kernel, by decide +kernel, by decide +kernel,
    by decide +kernel, test_staffed_calm.2.2.2.2.2.1, fun _ => others_normal, by decide +kernel⟩

theorem test_PartialAcknowledgementIsRecorded_hypotheses :
    (withRecord review).calm 1 ∧ ((withRecord review).area ((withRecord review).point 0).area).record = some 0 ∧
      ((withRecord review).record 0).outConsole = some 1 ∧ ((withRecord review).record 0).inConsole = some 2 :=
  ⟨test_staffed_calm.2.2.1, by decide +kernel⟩

theorem test_SilenceQuietsTheConsole_hypotheses :
    staffed.mode = .inService ∧ lineDue (pressed 1 .silence staffed) 1 .silence .pressed = true ∧
      (hornDemand staffed 1).length = 1 := by
  decide +kernel

/-- A port with an open cursor, before the first entry of all, and after the last. -/
def opened (cur : Cursor) : State := staffed.setPort 1 { staffed.port 1 with cursor := cur }

theorem test_AlarmListIsReadInKeyOrder_hypotheses :
    staffed.mode = .inService ∧ scopeOf 0 0 = some .own ∧ scopeOf 1 0 = some .all ∧ scopeOf 2 23 = some (.area 23) ∧
    ((nextEntry (frameArrives 1 (opened (.beforeFirst .all))) 1 (.beforeFirst .all)).map (·.1) = some 0) ∧
    (nextEntry (frameArrives 1 (opened (.atKey .all ⟨4, 0, 511⟩))) 1 (.atKey .all ⟨4, 0, 511⟩)).isNone = true := by
  decide +kernel

theorem test_DeskLinesAndLampTest_hypotheses :
    Level.pressed ≠ (staffed.deskLine 1 .ack).line ∧ lineDue (pressed 1 .test staffed) 1 .test .pressed = true ∧
    lineDue (let_go 1 .test staffed) 1 .test .released = true ∧
    (Button.silence ≠ .test ∧ lineDue (let_go 1 .silence staffed) 1 .silence .released = true) ∧
    staffed.mode = .inService := by
  decide +kernel

theorem test_ShelveTaken_hypotheses :
    staffed.operatorReady 1 ∧
    (num16 0#8 4#8 = (4 : PointNo).val ∧ ((frameArrives 1 staffed).point 4).configured = true ∧ num16 2#8 0#8 ≠ 0 ∧
      ((frameArrives 1 staffed).area 0).owner = 1 ∧ ((frameArrives 1 staffed).area 0).record = none ∧
      ((frameArrives 1 staffed).point 4).shelvable = true ∧
      (∀ e ∈ (frameArrives 1 staffed).shelf, e.point ≠ 4) ∧ (frameArrives 1 staffed).shelf.length < 32) ∧
    ((frameArrives 1 staffed).point 3).shelvable = true ∧ ∃ e ∈ (frameArrives 1 staffed).shelf, e.point = 3 :=
  ⟨test_staffed_ready.2.2.1, by decide +kernel⟩

theorem test_ShelfEntriesStandInOrder_hypotheses :
    [(⟨1, 5#32, 0, 1⟩ : ShelfEntry), ⟨2, 9#32, 0, 1⟩].Pairwise
      (fun x y => (x.expiry - staffed.time.runClock).toNat ≤ (y.expiry - staffed.time.runClock).toNat) := by
  decide +kernel

theorem test_PointsLeaveTheShelf_hypotheses :
    staffed.operatorReady 1 ∧ num16 0#8 3#8 = (3 : PointNo).val ∧ ((frameArrives 1 staffed).point 3).configured = true ∧
      ((frameArrives 1 staffed).area ((frameArrives 1 staffed).point 3).area).owner = 1 ∧
      (∃ e ∈ (frameArrives 1 staffed).shelf, e.point = 3) ∧ (at_ 60000#32 staffed).mode = .inService ∧
      (dueEntries (at_ 60000#32 staffed)).length = 1 ∧ (dueEntries (at_ 59999#32 staffed)).length = 0 :=
  ⟨test_staffed_ready.2.2.1, by decide +kernel⟩

theorem test_RearmGroupTaken_hypotheses :
    staffed.operatorReady 1 ∧ (ask 1 0 0 0 0).b3.toNat = (0 : GroupNo).val + 1 ∧
      (frameArrives 1 staffed).groups[(0 : GroupNo)] = .tripped 0 ∧
      ((frameArrives 1 staffed).area ((frameArrives 1 staffed).point 0).area).owner = 1 ∧
    (let s := firstAt .normal .normal
    (∀ x, Member 0 (s.point x) → (s.point x).state = .normal) ∧
      (∀ g', ¬ Member g' (s.point 1)) ∧ Member 0 (s.point 0) ∧ s.groups[(0 : GroupNo)] ≠ .armed ∧
      (Member 0 (staffed.point 0) ∧ (staffed.point 0).state ≠ .normal) ∧
      Member 1 (s.point 5) ∧ s.groups[(1 : GroupNo)] = .armed) := by
  refine ⟨test_staffed_ready.2.2.1, by decide, by decide +kernel, by decide +kernel, fun x m => ?_, by decide +kernel⟩
  by_cases h : x = 0
  · subst h; decide +kernel
  · exact others_normal h m

theorem test_TakeoverTaken_hypotheses :
    staffed.supervisorReady ∧ areaSet 0 0 12 ≠ 0#24 ∧ ∀ a : AreaNo, (areaSet 0 0 12).getLsbD a = true →
      ((frameArrives 0 staffed).area a).attendance ≠ .attended ∧ ((frameArrives 0 staffed).area a).record = none :=
  ⟨test_staffed_ready.1, by decide +kernel⟩

theorem test_HandoverOffered_hypotheses :
    staffed.operatorReady 1 ∧ (ask 2 0 0 3 0).b3.toNat = (2 : Console).val ∧ (2 : Console) ≠ 1 ∧ areaSet 0 0 3 ≠ 0#24 ∧
    (∀ m, ((frameArrives 1 staffed).record m).phase ≠ .free →
      ((frameArrives 1 staffed).record m).inConsole ≠ some 2 ∧ ((frameArrives 1 staffed).record m).outConsole ≠ some 1) ∧
    (∀ a : AreaNo, (areaSet 0 0 3).getLsbD a = true →
      ((frameArrives 1 staffed).area a).owner = 1 ∧ ((frameArrives 1 staffed).area a).record = none) ∧
    ((frameArrives 1 staffed).record 0).phase = .free ∧
    ∀ m : RecordNo, m < 0 → ((frameArrives 1 staffed).record m).phase ≠ .free :=
  ⟨test_staffed_ready.2.2.1, by decide +kernel⟩

/-- An OFFERED record. -/
def offered : HoRecord :=
  { review with phase := .offered, inOperator := none, presented := 0#16, confirmed := 0#16, release := false }

theorem test_HandoverAccepted_hypotheses :
    (withRecord offered).operatorReady 2 ∧ (ask 0 0 0 0 0).b3.toNat = (0 : RecordNo).val ∧
      ((frameArrives 2 (withRecord offered)).record 0).inConsole = some 2 ∧
      ((frameArrives 2 (withRecord offered)).record 0).outConsole = some 1 ∧
      ((frameArrives 2 (withRecord offered)).record 0).phase = .offered ∧
      ∀ a : AreaNo, ((frameArrives 2 (withRecord offered)).record 0).areas.getLsbD a = true →
        (frameArrives 2 (withRecord offered)).qualifiedAt 2 a = true :=
  ⟨(test_withRecord_ready _).2.2, by decide +kernel⟩

theorem test_HandoverDeclinedOrWithdrawn_hypotheses :
    ((withRecord offered).operatorReady 2 ∧ ((frameArrives 2 (withRecord offered)).record 0).inConsole = some 2 ∧
      ((frameArrives 2 (withRecord offered)).record 0).phase = .offered) ∧
    (withRecord review).operatorReady 1 ∧ ((frameArrives 1 (withRecord review)).record 0).outConsole = some 1 ∧
      ((frameArrives 1 (withRecord review)).record 0).phase ≠ .free :=
  ⟨⟨(test_withRecord_ready _).2.2, by decide +kernel⟩, (test_withRecord_ready _).2.1, by decide +kernel⟩

theorem test_ReviewIsWorkedThrough_hypotheses :
    ((withRecord review).operatorReady 1 ∧ ((frameArrives 1 (withRecord review)).record 0).phase = .reviewing ∧
      ((frameArrives 1 (withRecord review)).record 0).inConsole = some 2 ∧
      (ask 0x84 0 2 0 0).b3.toNat % 4 = (0 : RecordNo).val ∧
      ((frameArrives 1 (withRecord review)).record 0).outConsole = some 1) ∧
    (withRecord review).operatorReady 2 ∧ ((frameArrives 2 (withRecord review)).record 0).inConsole = some 2 ∧
      itemSet 0 3 &&& ~~~((frameArrives 2 (withRecord review)).record 0).presented = 0#16 ∧
      (ask 0 0 0 0 0).b3.toNat = (0 : RecordNo).val :=
  ⟨⟨(test_withRecord_ready _).2.1, by decide +kernel⟩, (test_withRecord_ready _).2.2, by decide +kernel⟩

theorem test_ChecklistEventsFollowTheNotifyModes_hypotheses :
    review.phase = .reviewing ∧ review.outConsole = some 1 ∧ review.inConsole = some 2 := ⟨rfl, rfl, rfl⟩

theorem test_HandoverTakenOrForced_hypotheses :
    ((withRecord review).operatorReady 2 ∧ ((frameArrives 2 (withRecord review)).record 0) = review ∧
      (∀ a : AreaNo, review.areas.getLsbD a = true →
        (1 ≤ ((frameArrives 2 (withRecord review)).area a).gate.val →
          ((frameArrives 2 (withRecord review)).area a).unack.p1 = 0) ∧
        (2 ≤ ((frameArrives 2 (withRecord review)).area a).gate.val →
          ((frameArrives 2 (withRecord review)).area a).unack.p2 = 0)) ∧
      review.held = false ∧ review.release = true ∧ review.confirmed = review.presented ∧
      review.inOperator = some ((withRecord review).operatorNumber 2)) ∧
    (withRecord review).supervisorReady ∧ ((frameArrives 0 (withRecord review)).record 0) = review ∧
      (frameArrives 0 (withRecord review)).operatorAt 2 = some two ∧ review.inOperator = some two.number ∧
      (∀ a : AreaNo, review.areas.getLsbD a = true → (frameArrives 0 (withRecord review)).qualifiedAt 2 a = true) ∧
      (ask 0 0 0 0 0).b4 = 0#8 ∧ (ask 0 1 0 0 0).b4 = 1#8 ∧ review.phase ≠ .free :=
  ⟨⟨(test_withRecord_ready _).2.2, by decide +kernel⟩, (test_withRecord_ready _).1, by decide +kernel⟩

/-- `withRecord review` with area 0 gated on its priority-1 points, of which point 0 is unacknowledged. -/
def gated : State := (withRecord review).setArea 0 { (withRecord review).area 0 with gate := 1 }

theorem test_HandoverTakenOrForced_refusals :
    let r1 (h : HoRecord) : HoRecord := (frameArrives 2 (withRecord h)).record 0
    (withRecord review).operatorReady 1 ∧ ((frameArrives 1 (withRecord review)).record 0).inConsole ≠ some 1 ∧
    ((r1 offered).inConsole = some 2 ∧ (r1 offered).phase ≠ .reviewing) ∧
    ((withRecord review).operatorReady 2 ∧ (r1 { review with held := true }).held = true) ∧
    ((r1 { review with release := false }).held = false ∧ (r1 { review with release := false }).release = false) ∧
    ((r1 { review with confirmed := 1#16 }).held = false ∧ (r1 { review with confirmed := 1#16 }).release = true ∧
      (r1 { review with confirmed := 1#16 }).confirmed ≠ (r1 { review with confirmed := 1#16 }).presented) ∧
    (gated.operatorReady 2 ∧ (frameArrives 2 gated).record 0 = review ∧ review.areas.getLsbD (0 : AreaNo) = true ∧
      1 ≤ ((frameArrives 2 gated).area 0).gate.val ∧ ((frameArrives 2 gated).area 0).unack.p1 ≠ 0) ∧
    (r1 { review with inOperator := some 9 }).inOperator ≠ some ((withRecord review).operatorNumber 2) ∧
      (r1 { review with inOperator := some 9 }).confirmed = (r1 { review with inOperator := some 9 }).presented := by
  refine ⟨(test_withRecord_ready _).2.1, by decide +kernel, by decide +kernel,
    ⟨(test_withRecord_ready _).2.2, by decide +kernel⟩, by decide +kernel, by decide +kernel,
    ⟨test_staffed_ready.2.2.2, by decide +kernel⟩, by decide +kernel⟩

theorem test_EndOfARecord_hypotheses :
    ((withRecord review).record 0).outConsole = some 1 ∧ ((withRecord review).record 0).inConsole = some 2 ∧
      HoOutcome.superseded ≠ .committed ∧ ¬ (HoOutcome.lapsed = .committed ∨ HoOutcome.lapsed = .superseded) ∧
    (half.record 0).outConsole = some 1 ∧ (half.record 0).inConsole = some 2 ∧
    ((List.finRange 512).filter fun p => decide ((half.point p).configured = true ∧
      (half.record 0).areas.getLsbD (half.point p).area = true ∧
      ((half.point p).state = .raised ∨ (half.point p).state = .returned) ∧ 2 ∈ (half.point p).ackSet)).length = 1 ∧
    half.calm (1 + 2) ∧
    ∀ (a : AreaNo) u, (half.record 0).areas.getLsbD a = true → (half.area a).attendance ≠ .escalated u := by
  refine ⟨by decide +kernel, by decide +kernel, by decide, by decide, by decide +kernel, by decide +kernel,
    ?_, test_staffed_calm.2.2.2.2.1, fun a u _ hu => ?_⟩
  · rw [filter_points half fun _ q => decide (q.configured = true ∧ (half.record 0).areas.getLsbD q.area = true ∧
      (q.state = .raised ∨ q.state = .returned) ∧ 2 ∈ q.ackSet)]
    decide +kernel
  have h : ∀ a : AreaNo, (half.area a).isEscalated = false := by decide +kernel
  exact absurd (escalated_found hu) (by simp [h a])

theorem test_EndOfARecord_areas :
    half.recordsSound ∧ (half.record 0).areas.getLsbD (0 : AreaNo) = true ∧
    (half.record 0).areas.getLsbD (1 : AreaNo) = false ∧
    ((escalatedIn 0 half).record 0).areas.getLsbD (0 : AreaNo) = true ∧
    ((escalatedIn 0 half).area 0).attendance = .escalated 7#32 ∧
    attendanceTest (endRecord (escalatedIn 0 half) 0 .lapsed .reviewTimeout 1 1207).state 0 = true := by
  unfold State.recordsSound
  decide +kernel

/-- 5.5: at a commit to a console whose operator is gone the area becomes UNATTENDED, and it joins that console's horn
scope. -/
theorem test_end_reevaluates :
    let t := (endRecord (leave 2 (withRecord review)) 0 .committed .take 2 415).state
    (t.area 0).attendance = .unattended 0#32 ∧ (t.horn 1).scope.getLsbD 0 = false ∧ (t.horn 2).scope.getLsbD 0 = true := by
  decide +kernel

theorem test_SetTimeTaken_hypotheses : staffed.supervisorReady := test_staffed_ready.1

/-- A journal record, and `staffed` with a number of them in the FIFO and with drop counters. -/
def entry : JournalRecord := ⟨.ack, .accountable, 0#32, 0#16, 0, 0#6, 0#16, 0#32⟩

@[inherit_doc entry] def queued (n dr da : Nat) : State :=
  { staffed with journal := { staffed.journal with fifo := List.replicate n entry, dropRoutine := dr, dropAccountable := da } }

@[inherit_doc entry] def toldLoss (l : List Input) : State :=
  { staffed with journal := { staffed.journal with lossEvents := l } }

theorem test_OffersFollowTheClassLimits_hypotheses :
    ((queued 223 0 0).journal.fifo.length < 224 ∧ (queued 255 0 0).journal.fifo.length < 256) ∧
    (224 ≤ (queued 224 0 0).journal.fifo.length ∧ 256 ≤ (queued 256 0 0).journal.fifo.length) ∧
    (0 < (queued 222 1 0).journal.dropRoutine ∧ (queued 222 1 0).journal.fifo.length + 2 ≤ 224 ∧
      (queued 254 0 1).journal.fifo.length + 2 ≤ 256) ∧
    224 < (queued 223 1 0).journal.fifo.length + 2 ∧ 256 < (queued 255 0 1).journal.fifo.length + 2 ∧
      0 < (queued 255 0 1).journal.dropAccountable ∧
    (toldLoss [.active]).journal.lossEvents = [.active] ∧ (toldLoss []).journal.lossEvents = [] := by
  simp [queued, toldLoss]

/-- R26, R157: a drop that begins loss raises point 510 within the offer, but not while CONFIGURING. -/
theorem test_configuring_drops_the_loss_change :
    let s := (queued 224 0 0).putPoint 510 { staffed.point 4 with configured := true }
    let x := { entry with cls := .routine }
    ((offer s x).point 510).state = .raised ∧ ((offer { s with mode := .configuring } x).point 510).state = .normal := by
  decide +kernel

/-- `staffed` with the sender in a state. -/
def sender (st : Stream) (u : Option JournalUnit) (b : LineByte) (n : Nat) : State :=
  { staffed with journal := { staffed.journal with
      fifo := [entry], stream := st, unit := u, lineByte := b, bytesSent := n } }

theorem test_StreamIsStartedAndStopped_hypotheses :
    staffed.supervisorReady ∧ (sender .streaming none .none 0).journal.stream = .streaming ∧
      (sender .stopped none .none 0).journal.stream ≠ .streaming ∧
      (sender .streaming (some .record) .unit 3).journal.unit ≠ none :=
  ⟨test_staffed_ready.1, by decide +kernel⟩

theorem test_JournalIsClearedAndReset_hypotheses : staffed.supervisorReady := test_staffed_ready.1

/-- The head record in transmission, its next byte waiting for the ready input, and due or not. -/
def waits (due : Bool) : State :=
  let s := sender .streaming (some .record) .none 3
  { s with journal := { s.journal with resumeDue := due } }

theorem test_SenderEvents_hypotheses :
    ((sender .streaming (some .record) .unit 14).journal.unit = some .record ∧
      (sender .streaming (some .record) .unit 14).journal.bytesSent < 15) ∧
    (sender .stopped (some .record) (.tail 0x5C#8) 0).journal.lineByte = .tail 0x5C#8 ∧
    (sender .streaming (some .record) .unit 14).journal.fifo.head? = some entry ∧
    (sender .streaming (some (.filler entry)) .unit 15).journal.unit = some (.filler entry) ∧
    ((sender .stopped none (.tail 0x5C#8) 0).journal.unit = none ∧
      (sender .stopped none (.tail 0x5C#8) 0).journal.lineByte = .tail 0x5C#8) ∧
    (sender .stopping (some .record) .unit 15).journal.stream = .stopping ∧
    (sender .streaming (some .record) .unit 15).journal.bytesSent = 15 ∧
    (sender .streaming (some .record) .none 0).journal.lineByte = .none ∧
    (sender .streaming (some .record) .unit 15).journal.lineByte = .unit ∧
    (sender .streaming (some .record) .unit 14).journal.bytesSent ≠ 15 ∧
    ((waits true).journal.unit = some .record ∧ (waits true).journal.lineByte = .none ∧
      (waits true).journal.resumeDue = true ∧ (waits false).journal.resumeDue = false) ∧
    let s : State := { staffed with
      time := { staffed.time with fillerDue := true }
      journal := { staffed.journal with stream := .streaming, quiet := true, readySeen := true } }
    s.time.fillerDue = true ∧ s.journal.stream = .streaming ∧ s.journal.fifo = [] ∧ s.journal.unit = none ∧
      s.journal.quiet = true ∧ s.journal.readySeen = true := by
  decide +kernel

/-- 10.4: an ACK of point 258 by console 2 with the override flag, operator 881, reaching STANDING: 16 bytes of sum 0,
written out by hand from the layout. -/
theorem test_journal_record_bytes :
    JournalRecord.bytes ⟨.ack, .accountable, 0x01020304#32, 258#16, 2, 0x20#6, 881#16, 0x02000000#32⟩ =
      [0xA7#8, 0x03#8, 0x01#8, 0x02#8, 0x03#8, 0x04#8, 0x01#8, 0x02#8, 0x82#8, 0x03#8, 0x71#8, 0x02#8, 0#8, 0#8, 0#8,
        0x51#8] := by
  decide

theorem test_TableWrites_hypotheses :
    State.reset.mode = .configuring ∧
    (num16 1#8 255#8 = (511 : PointNo).val ∧ (0xD7#8).toNat % 32 = (23 : AreaNo).val ∧
      (0x48#8).toNat / 16 = Priority.p4.number ∧ (0x48#8).toNat % 16 = (8 : Fin 9).val) ∧
    ((ask 23 6 1 2 0).b3.toNat = (23 : AreaNo).val ∧ (ask 23 6 1 2 0).b4.toNat = (6 : Fin 7).val ∧
      (ask 23 6 1 2 0).b5.toNat = JointAck.bothP1.code ∧ (ask 23 6 1 2 0).b6.toNat = (2 : Fin 3).val) ∧
    ((ask 63 39 15 2 0xFF).b3.toNat = (63 : SlotNo).val ∧ (ask 63 39 15 2 0xFF).b6.toNat = Role.supervisor.code ∧
      num16 (ask 63 39 15 2 0xFF).b4 (ask 63 39 15 2 0xFF).b5 = 9999) ∧
    (num16 (ask 63 0 0 0 0).b4 (ask 63 0 0 0 0).b5 = 0 ∧ (ask 63 0 0 0 0).b7.getLsbD 7 = false) ∧
    (∀ i : SlotNo, State.reset.roster[i] = none) := by
  refine ⟨rfl, by decide, by decide, by decide, by decide, by decide +kernel⟩

theorem test_SettingWrites_hypotheses :
    State.reset.mode = .configuring ∧
    ((ask 0 7 8 0 0).b3 = 0#8 ∧ num16 7#8 8#8 = 1800 ∧ num16 0#8 30#8 = 30) ∧
    ((ask 1 28 32 0 0).b3 = 1#8 ∧ num16 28#8 32#8 = 7200) ∧ ((ask 2 0 20 0 0).b3 = 2#8 ∧ num16 0#8 20#8 = 20) ∧
    ((ask 3 2 88 0 0).b3 = 3#8 ∧ num16 2#8 88#8 = 600) ∧
    ((ask 0 0 3 0 0).b3 = 0#8 ∧ num16 0#8 3#8 ≤ 3) ∧ ((ask 1 0 10 0 0).b3 = 1#8 ∧ num16 0#8 10#8 = 10) ∧
    ((ask 2 0 4 0 0).b3 = 2#8 ∧ num16 0#8 4#8 ≤ 4) ∧
    ((ask 23 127 255 127 255).b3.toNat = (23 : AreaNo).val ∧ num16 127#8 255#8 = 32767) ∧
    (ask 24 0 0 0 0).b3 = 24#8 ∧ (ask 25 0 0 0 0).b3 = 25#8 ∧ (ask 26 0 0 0 0).b3 = 26#8 ∧ (ask 27 0 0 0 0).b3 = 27#8 ∧
    ((ask 28 0 10 0 0).b3 = 28#8 ∧ num16 0#8 10#8 = 10) ∧
    ((ask 0 1 8 8 0).b4.toNat = PatternKind.fixed.code ∧ (ask 0 1 8 8 0).b5.toNat ∈ [1, 2, 4, 8] ∧
      (ask 0 1 8 8 0).b6.toNat = 8) ∧
    ((ask 1 12 0xCC 0xCC 0xCC).b3 = 1#8 ∧ (ask 1 12 0xCC 0xCC 0xCC).b4.toNat = 12 ∧ (0xCC#8).toNat / 16 = 12 ∧
      (0xCC#8).toNat % 16 = 12) ∧
    (ask 2 0xCC 0xCC 0xCC 0).b3 = 2#8 ∧ num16 (ask 255 255 0 0 0).b3 (ask 255 255 0 0 0).b4 ≠ 0 := by
  decide

theorem test_RaiseHandsOn_hypotheses :
    staffed.calm 3 ∧ (staffed.point 5).configured = true ∧ (staffed.point 5).state = .normal ∧
      (staffed.point 1).configured = true ∧ (staffed.point 1).state = .returned ∧
      memberGroup (staffed.point 5) = some 1 ∧ staffed.groups[(1 : GroupNo)] = .armed ∧
      (staffed.point 3).configured = true ∧ (staffed.point 3).state = .shelved ∧
      memberGroup (staffed.point 3) = none ∧
    (let s := (withRecord review).setArea 0 { (withRecord review).area 0 with load := 1600 }
    s.calm 3 ∧ (s.point 5).state = .normal ∧ (s.area 0).flood = .normal ∧
      (s.area 0).tOn ≤ min 32767 ((s.area 0).load + s.weights.get (s.point 5).priority) ∧
      (s.area 0).record = some 0 ∧ (s.area 0).record ≠ some 1 ∧ (s.record 0).phase = .reviewing ∧
      (s.record 0).outConsole = some 1 ∧ (s.record 0).outNotify = .word ∧
      ¬ ((s.record 0).confirmed = (s.record 0).presented ↔
        (s.record 0).confirmed &&& ~~~1#16 = (s.record 0).presented)) := by
  refine ⟨test_staffed_calm.1, ?_⟩
  unfold State.calm
  decide +kernel

theorem test_PointInputSteps_hypotheses :
    staffed.calm 1 ∧ (staffed.point 6).configured = false ∧
    ((staffed.point 4).configured = true ∧ (staffed.point 4).input = .normal ∧ (staffed.point 4).state = .normal) ∧
    ((staffed.point 0).input = .active ∧ (staffed.point 0).state = .raised) ∧
    ((staffed.point 2).input = .active ∧ (staffed.point 2).state = .standing) ∧
    ((staffed.point 3).input ≠ .active ∧ (staffed.point 3).state = .shelved) ∧
    (let s := firstAt .standing .active
    s.calm 1 ∧ (∀ p', p' ≠ 0 → Member 0 (s.point p') → (s.point p').state = .normal) ∧
      ((s.point 0).input = .active ∧ (s.point 0).state = .standing) ∧
      (Member 0 (s.point 0) ∧ s.groups[(0 : GroupNo)] ≠ .armed) ∧ ∀ g, ¬ Member g (s.point 1)) :=
  ⟨test_staffed_calm.2.1, by decide +kernel, by decide +kernel, by decide +kernel, by decide +kernel,
    by decide +kernel, test_staffed_calm.2.2.2.2.2.2, fun _ => others_normal, by decide +kernel⟩

/-- `staffed` with area 0 in FLOOD at a load. -/
def flooded (load : Nat) : State := staffed.setArea 0 { staffed.area 0 with load := load, flood := .flood }

theorem test_DecayStepOfAnArea_hypotheses :
    (flooded 812).calm 1 ∧
      ¬ (((flooded 813).area 0).flood = .flood ∧
        ((flooded 813).area 0).load - (((flooded 813).area 0).load + 2 ^ 6 - 1) / 2 ^ 6 < ((flooded 813).area 0).tOffApplied) ∧
      (((flooded 812).area 0).flood = .flood ∧
        ((flooded 812).area 0).load - (((flooded 812).area 0).load + 2 ^ 6 - 1) / 2 ^ 6 < ((flooded 812).area 0).tOffApplied) := by
  unfold State.calm
  decide +kernel

/-- `staffed` with the receiver's framing in a state. -/
def framed (f : Framing) : State := staffed.setFraming f

theorem test_FramingTakesEachByte_hypotheses :
    (framed (.locked [])).receiver.framing = .locked [] ∧ (framed (.searching [])).receiver.framing = .searching [] ∧
    1 ≤ [syncByte].length ∧ [syncByte, 0, 0, 0, 0].length ≤ 5 ∧ [syncByte, 1, 0, 9, 1, 7].length = 6 ∧
    ([syncByte, 1, 0, 9, 1, 7, 0x92].foldl (· + ·) 0#8 = 0#8) ∧
    ([syncByte, 1, 0, 9, 1, 7, 0x93].foldl (· + ·) 0#8 ≠ 0#8) := by
  decide +kernel

theorem test_FieldRecordTaken_hypotheses :
    staffed.receiver.framing = .locked [] ∧ State.reset.mode = .configuring ∧
      State.reset.receiver.framing = .searching [] ∧ staffed.mode = .inService ∧
      staffed.receiver.link = .ok (some 3000#32) ∧ 3 ≤ (3#8).toNat ∧ 508 ≤ num16 1#8 252#8 ∧
      num16 1#8 251#8 = (507 : PointNo).val ∧ (staffed.point 507).configured = false ∧
      num16 0#8 4#8 = (4 : PointNo).val ∧ (staffed.point 4).configured = true ∧
    (let s := { staffed with receiver := { staffed.receiver with link := .lost 100#32, expected := none } }
    s.mode = .inService ∧ s.receiver.framing = .locked [] ∧ s.receiver.link = .lost 100#32 ∧
      s.receiver.expected = none) := by
  decide +kernel

theorem test_LinkIsLostAtItsDeadline_hypotheses :
    staffed.mode = .inService ∧ staffed.receiver.link = .ok (some 3000#32) ∧
      2147483648 ≤ ((at_ 2999#32 staffed).time.runClock - 3000#32).toNat ∧
      ((at_ 3000#32 staffed).time.runClock - 3000#32).toNat < 2147483648 := by
  decide +kernel

theorem test_RestartLiveState_hypotheses :
    staffed.roster[(0 : SlotNo)] = some lead ∧ staffed.roster[(63 : SlotNo)] = none := by
  decide +kernel

theorem test_ServiceStatesChange_hypotheses :
    State.reset.mode = .configuring ∧ staffed.supervisorReady ∧ staffed.mode = .inService ∧ (511 : PointNo) ≠ 510 ∧
    staffed.lampTest = .idle ∧
    ((queued 255 0 0).journal.lossEvents = [] ∧ (queued 255 0 0).journal.fifo.length < 256) ∧
    (256 ≤ (queued 256 0 1).journal.fifo.length ∧ 0 < (queued 256 0 1).journal.dropAccountable) ∧
    (256 ≤ (queued 256 0 0).journal.fifo.length ∧ (queued 256 0 0).journal.dropRoutine = 0 ∧
      (queued 256 0 0).journal.dropAccountable = 0) :=
  ⟨rfl, test_staffed_ready.1, by decide +kernel⟩

theorem test_TickSlotAndChirp_hypotheses :
    staffed.countsInRange ∧ ({ staffed with slots := ⟨15, 0, true⟩ } : State).slots.boundaryDue = true ∧
      ((staffed.setHorn 1 { staffed.horn 1 with chirp := some 0#32 }).horn 1).chirp = some 0#32 ∧
      (staffed.time.runClock - 0#32).toNat < 2147483648 ∧
    (let scanned (sc : Scanner) (n : Nat) : State :=
      { staffed with board := { staffed.board with scanner := sc, count := n } }
    ((scanned .stopped 0).board.frameDue = false ∧ (scanned .stopped 0).countsInRange) ∧
      ((scanned .scanning 34).countsInRange ∧ (scanned .scanning 34).board.frameDue = false ∧ 30 ≤ 34) ∧
      ((scanned .scanning 29).countsInRange ∧ 29 % 5 = 4 ∧ 29 < 30) ∧ (scanned .scanning 9).countsInRange ∧ 9 < 10) := by
  unfold State.countsInRange
  decide +kernel

/-- `withRecord review`, whose timer is at 1, with an OFFERED record 1 after it. -/
def twoRecords : State :=
  { withRecord review with
    records := (staffed.records.set 0 review).set 1 { offered with timer := 2, areas := 2#24 } }

/-- A record that counts, and the records of a state counted from one number up to another (SecondsTickAndLapse). -/
abbrev Counts (h : HoRecord) : Prop := h.phase = .offered ∨ (h.phase = .reviewing ∧ h.held = false)

@[inherit_doc Counts] abbrev Counted (s : State) (v : Vector HoRecord 4) (lo hi : Nat) : Prop := ∀ m : RecordNo,
  (lo ≤ m.val → m.val < hi → Counts (s.record m) →
    2 ≤ (s.record m).timer ∧ v[m] = { s.record m with timer := (s.record m).timer - 1 }) ∧
  (m.val < lo ∨ hi ≤ m.val ∨ ¬ Counts (s.record m) → v[m] = s.record m)

/-- The sender at a seconds tick, with a number of records in the FIFO. -/
def idle (q : Bool) (n : Nat) (st : Stream) : State :=
  { queued n 0 0 with
    time := { staffed.time with fillerDue := true }
    journal := { (queued n 0 0).journal with stream := st, quiet := q, readySeen := true } }

theorem test_SecondsTickAndLapse_hypotheses :
    ({ staffed with time := { staffed.time with secondsDue := true } } : State).time.secondsDue = true ∧
      staffed.mode = .inService ∧ State.reset.mode = .configuring ∧
    (Counted twoRecords (twoRecords.records.set 1 { twoRecords.record 1 with timer := 1 }) 1 4 ∧
      (Counted twoRecords twoRecords.records 0 0 ∧ Counts (twoRecords.record 0) ∧ (twoRecords.record 0).timer ≤ 1) ∧
      (twoRecords.record 0).timer = 1 ∧ (Counts (twoRecords.record 1) ∧ 2 ≤ (twoRecords.record 1).timer) ∧
      ¬ Counts { review with held := true }) ∧
    ({ staffed with time := { staffed.time with rest := some ⟨0, false⟩ } } : State).time.rest = some ⟨0, false⟩ ∧
    ((idle true 1 .streaming).time.fillerDue = true ∧ (idle true 1 .streaming).journal.fifo ≠ []) ∧
      ((idle true 0 .stopped).journal.fifo = [] ∧ (idle true 0 .stopped).journal.unit = none ∧
        (idle true 0 .stopped).journal.stream ≠ .streaming) ∧
      ((idle false 0 .streaming).journal.stream = .streaming ∧ (idle false 0 .streaming).journal.quiet = false) ∧
      (idle true 0 .streaming).journal.quiet = true ∧ (idle true 0 .streaming).journal.readySeen = true := by
  refine ⟨by decide +kernel, by decide +kernel, by decide +kernel, ⟨by decide +kernel, ⟨by decide +kernel, ?_⟩, ?_⟩, ?_⟩ <;>
    decide +kernel

theorem test_AbsenceAndEscalation_hypotheses :
    staffed.mode = .inService ∧
    ((staffed.desk 0).presence = .present (some 2000#32) ∧
      ((at_ 2000#32 staffed).time.runClock - 2000#32).toNat < 2147483648 ∧ (∀ d : Console, ¬ d < 0) ∧
      ∀ d, staffed.presentAt d = true) ∧
    (staffed.setDesk 3 ⟨.absent 0#32, 0#32, none⟩).presentAt 3 = false ∧
    (staffed.area 2).attendance = .unattended 0#32 ∧
      (at_ 60000#32 staffed).time.runClock - (0#32 + BitVec.ofNat 32 (staffed.timing.escalationDelay * 1000)) = 0#32 ∧
      (∀ b : AreaNo, b < 2 → (staffed.area b).attendance = .attended) ∧
      ((staffed.setArea 5 { staffed.area 5 with attendance := .escalated 0#32 }).area 5).attendance = .escalated 0#32 := by
  decide +kernel

/-- `staffed` at the end of a board frame, with the lamp test in a state. -/
def frameEnd (sc : Scanner) (x : LampTest) : State :=
  { staffed with board := { staffed.board with scanner := sc, frameDue := true }, lampTest := x }

theorem test_BoardFrameEnds_hypotheses :
    (frameEnd .scanning .idle).board.frameDue = true ∧ (frameEnd .scanning .idle).board.scanner = .scanning ∧
      (frameEnd .scanning .pending).lampTest = .pending ∧
      (frameEnd .scanning (.running 15 0)).lampTest = .running 15 0 ∧
      (∀ d : Console, ((frameEnd .scanning (.running 15 0)).lines[d]).test.debounced ≠ .pressed) ∧
      (frameEnd .scanning (.running 0 16)).lampTest = .running 0 16 ∧ 0 < 16 ∧
      (frameEnd .blanking .idle).board.scanner = .blanking ∧ (frameEnd .scanning .idle).board.chainSound ∧
      (12 ≤ 12 ∧ (12 % 3 = 0 ∧ 7 < 8) ∧ ¬ (12 % 3 = 1 ∨ (12 % 3 = 2 ∧ 8 % 4 < 2) ∨ (12 % 3 = 0 ∧ 8 < 8))) ∧
      (11 % 3 = 2 ∧ 1 % 4 < 2 ∧ ¬ 2 % 4 < 2) ∧ (31 : Fin 32).val = 24 + (7 : GroupNo).val ∧
      (23 : Fin 32).val = (23 : AreaNo).val ∧ staffed.groups[(0 : GroupNo)] = .tripped 0 ∧
      staffed.groups[(7 : GroupNo)] = .armed ∧
      (Pattern.reset.kind = .bars ∧ 3 < Pattern.reset.bars ∧ 3 * Pattern.reset.width ≤ 7 ∧
        7 < 3 * Pattern.reset.width + Pattern.reset.width ∧ 1 ≤ Pattern.reset.width) ∧
      ({ Pattern.reset with bars := 1 }.bars * Pattern.reset.width ≤ 2) ∧
      { Pattern.reset with kind := .fixed, length := 12 }.kind = .fixed ∧ 12 ≤ 12 := by
  unfold Board.chainSound
  decide +kernel

/-- `boiler` before any point of area 7 is raised, with point 140 in a state at a priority. -/
def tiled (st : Annunciation) (pr : Priority) (f : Area → Area) : State :=
  { staffed with
    areas := staffed.areas.set 7 (f (staffed.area 7))
    points := staffed.points.set 140 { pt pr 0 .normal st none with area := 7 } }

/-- Area 7 holds a point in an annunciation state, and one of priority 1 or 2 (R134). -/
def Holds (s : State) (st : Annunciation) : Prop := ∃ p, (s.point p).configured = true ∧ (s.point p).area = 7 ∧
  (s.point p).state = st

@[inherit_doc Holds] def Urgent (s : State) (st : Annunciation) : Prop := ∃ p, (s.point p).configured = true ∧
  (s.point p).area = 7 ∧ (s.point p).state = st ∧ ((s.point p).priority = .p1 ∨ (s.point p).priority = .p2)

/-- `Holds` and `Urgent`, by one pass over the point table. -/
theorem holds_by_pass {s : State} {st : Annunciation} :
    Holds s st ↔ (s.points.toList.any fun q => decide (q.configured = true ∧ q.area = 7 ∧ q.state = st)) = true :=
  exists_points (f := fun q => q.configured = true ∧ q.area = 7 ∧ q.state = st)

@[inherit_doc holds_by_pass] theorem urgent_by_pass {s : State} {st : Annunciation} :
    Urgent s st ↔ (s.points.toList.any fun q =>
      decide (q.configured = true ∧ q.area = 7 ∧ q.state = st ∧ (q.priority = .p1 ∨ q.priority = .p2))) = true :=
  exists_points (f := fun q => q.configured = true ∧ q.area = 7 ∧ q.state = st ∧ (q.priority = .p1 ∨ q.priority = .p2))

/-- Area 7 holds no point in alarm. -/
abbrev Quiet (s : State) : Prop := ¬ Holds s .raised ∧ ¬ Holds s .returned ∧ ¬ Holds s .standing

theorem test_BoardFrameEnds_rows :
    Urgent (tiled .raised .p2 id) .raised ∧
    (¬ Urgent (tiled .raised .p3 id) .raised ∧ Holds (tiled .raised .p3 id) .raised) ∧
    (¬ Holds (tiled .returned .p1 id) .raised ∧ Urgent (tiled .returned .p1 id) .returned) ∧
    (¬ Urgent (tiled .returned .p4 id) .returned ∧ Holds (tiled .returned .p4 id) .returned) ∧
    (¬ Holds (tiled .standing .p1 id) .returned ∧ Urgent (tiled .standing .p1 id) .standing) ∧
    (¬ Urgent (tiled .standing .p4 id) .standing ∧ Holds (tiled .standing .p4 id) .standing) ∧
    (Quiet (tiled .normal .p1 fun e => { e with attendance := .escalated 0#32 }) ∧
      ((tiled .normal .p1 fun e => { e with attendance := .escalated 0#32 }).area 7).attendance = .escalated 0#32) ∧
    (Quiet (tiled .normal .p1 fun e => { e with notGood := 1 }) ∧
      ((tiled .normal .p1 fun e => { e with notGood := 1 }).area 7).isEscalated = false ∧
      ((tiled .normal .p1 fun e => { e with notGood := 1 }).area 7).notGood ≠ 0) ∧
    (Quiet (tiled .shelved .p1 fun e => { e with shelved := 1 }) ∧
      ((tiled .shelved .p1 fun e => { e with shelved := 1 }).area 7).notGood = 0 ∧
      ((tiled .shelved .p1 fun e => { e with shelved := 1 }).area 7).shelved ≠ 0) ∧
    Quiet (tiled .normal .p1 id) := by
  simp only [Quiet, holds_by_pass, urgent_by_pass]
  and_intros <;> decide +kernel

/-- `staffed` with a command in the queue: a frame of console 1 cut short. -/
def waiting : State := { staffed with pending := [.shortFrame 1] }

theorem test_PinsFollowEveryStep_hypotheses :
    exec (.shortFrame 1) staffed = .next (settle staffed) ∧ (settle staffed).pinsAgree ∧
      step (settle staffed) = .next (settle staffed) := by
  refine ⟨rfl, ⟨?_, ?_, ?_, ?_⟩, rfl⟩
  · unfold Sounds
    intro c
    match c with
    | 0 => exact ⟨fun h => absurd h (by decide +kernel), fun h => by
        rw [show demandPriority (settle staffed) 0 = none by decide +kernel] at h; exact h.elim⟩
    | 1 => exact ⟨fun _ => by rw [show demandPriority (settle staffed) 1 = some .p1 by decide +kernel]; trivial,
        fun _ => by decide +kernel⟩
    | 2 => exact ⟨fun h => absurd h (by decide +kernel), fun h => by
        rw [show demandPriority (settle staffed) 2 = none by decide +kernel] at h; exact h.elim⟩
    | 3 => exact ⟨fun h => absurd h (by decide +kernel), fun h => by
        rw [show demandPriority (settle staffed) 3 = none by decide +kernel] at h; exact h.elim⟩
  · intro c
    have h : ∀ c, ((settle staffed).port c).flags = 0#9 ∧ ((settle staffed).port c).irq = false := by decide +kernel
    simp [(h c).1, (h c).2]
  · have h : (settle staffed).commonAlarm = false ∧
        ∀ a, Area.isEscalated ((settle staffed).area a) = false := by decide +kernel
    simp only [h.1, Bool.false_eq_true, false_iff, not_exists]
    rintro a t ⟨ha, -⟩
    exact absurd (escalated_found ha) (by rw [h.2 a]; decide)
  · unfold Board.outputsAgree
    decide +kernel

theorem test_SoundStatesStaySound_hypotheses : step waiting = .next (settle staffed) ∧ waiting.shelfSound := by
  refine ⟨rfl, (by decide +kernel : waiting.shelf.length ≤ 32),
    (by decide +kernel : (waiting.shelf.map (·.point)).Nodup), fun p => ?_⟩
  have k := forall_points (s := waiting)
    (f := fun p q => decide (q.state = .shelved ↔ ∃ e ∈ waiting.shelf, e.point = p)) (by decide +kernel) p
  simpa using k

/-- The other premises of SoundStatesStaySound, those on records of a state with a handover under review. -/
theorem test_SoundStatesStaySound_ranges :
    let held : State := { withRecord review with pending := [.shortFrame 1] }
    (∃ t, step held = .next t) ∧ waiting.journal.withinBudget ∧ waiting.journal.countersInRange ∧
      waiting.receiver.counts.inRange ∧ waiting.loadsInRange ∧ waiting.countsInRange ∧ waiting.board.chainSound ∧
      held.checklistsSound ∧ held.recordsSound := by
  unfold Journal.withinBudget Journal.countersInRange LinkCounts.inRange State.loadsInRange State.countsInRange
    Board.chainSound State.checklistsSound State.recordsSound
  exact ⟨⟨_, rfl⟩, by decide +kernel⟩

theorem test_CountsStayExact_hypotheses : waiting.countsExact ∧ step waiting = .next (settle staffed) := by
  refine ⟨?_, rfl⟩
  have h : ∀ a : AreaNo,
      let number (f : Point → Bool) : Nat :=
        (waiting.points.toList.filter fun q => q.configured && q.area == a && f q).length
      (([Priority.p1, .p2, .p3, .p4].all fun pr => (waiting.area a).unack.get pr ==
        number fun q => q.priority == pr && (q.state == .raised || q.state == .returned)) &&
      (waiting.area a).standing == number (fun q => q.state == .standing) &&
      (waiting.area a).shelved == number (fun q => q.state == .shelved) &&
      (waiting.area a).notGood == number fun q => q.quality != .good) = true := by
    decide +kernel
  intro a number
  have k := h a
  dsimp only at k
  rw [Bool.and_eq_true, Bool.and_eq_true, Bool.and_eq_true, List.all_eq_true, beq_iff_eq, beq_iff_eq, beq_iff_eq] at k
  exact ⟨fun pr => by simpa using k.1.1.1 pr (by cases pr <;> decide), k.1.1.2, k.1.2, k.2⟩

theorem test_FlagsAndRecordsStay_hypotheses :
    (∃ t, exec (.clearFlags 1 (ask 1 255 0 0 0)) staffed = .next t) ∧ Instr.clearFlags 1 (ask 1 255 0 0 0) ≠ .powerOn ∧
      (∃ t, exec (.portReset 2 (ask 0 0 0 0 0)) staffed = .next t) ∧
      ∃ t, exec (.journalRecordSent true) (sender .streaming (some .record) .unit 15) = .next t :=
  ⟨⟨_, rfl⟩, by decide, ⟨_, rfl⟩, _, rfl⟩

theorem test_OnlyNamedCommandsChangeThese_hypotheses :
    (Instr.silence 1 (ask 0 0 0 0 0)).wellFormed = true ∧ (∃ t, exec (.silence 1 (ask 0 0 0 0 0)) staffed = .next t) ∧
      Instr.silence 1 (ask 0 0 0 0 0) ≠ .powerOn ∧ staffed.mode = .inService :=
  ⟨by decide, ⟨_, rfl⟩, by decide, rfl⟩

/-! ## Values worked in the spec -/

/-- The state a command leaves. -/
def does (i : Instr) (s : State) : State :=
  match exec i s with
  | .next t => t
  | _ => State.reset

/-- The status of a console's pending response, with its five bytes. -/
def reply (s : State) (c : Console) : Status × List Byte :=
  let r := (s.port c).response
  (r.status, [r.r1, r.r2, r.r3, r.r4, r.r5])

/-- 4.8: the ticks of the recovery boiler, the top of the load and its bottom. -/
theorem test_flood_decay :
    [2100, 2067, 2034, 2002, 1970, 812, 799, 32767, 3, 2, 1, 0].map (decayed · 6) =
      [2067, 2034, 2002, 1970, 1939, 799, 786, 32255, 2, 1, 0, 0] := by
  decide +kernel

/-- Area 7 at a load, owned by console 2, with points 140 (P1), 141 (P2) and 205 (P4). -/
def boiler (load : Nat) : State :=
  { staffed with
    areas := staffed.areas.set 7 { Area.reset with owner := 2, load := load }
    points := ((staffed.points.set 140 { pt .p1 0 .normal .normal none with area := 7 }).set 141
      { pt .p2 0 .normal .normal none with area := 7 }).set 205 { pt .p4 0 .normal .normal none with area := 7 } }

/-- 4.8: the twelfth raise, of priority 4 at load 1950, starts the flood and is quieted. -/
theorem test_flood_onset :
    (((does (.fieldRecord 1#8 0#8 205#8 1#8 0#8) (boiler 1950)).area 7).load,
      ((does (.fieldRecord 1#8 0#8 205#8 1#8 0#8) (boiler 1950)).area 7).flood,
      ((does (.fieldRecord 1#8 0#8 205#8 1#8 0#8) (boiler 1950)).point 205).quiet) = (2000, .flood, true) := by
  decide +kernel

/-- 4.8: the load saturates at 32767. -/
theorem test_flood_load_saturates :
    ((does (.fieldRecord 1#8 0#8 140#8 1#8 0#8) (boiler 32500)).area 7).load = 32767 := by
  decide +kernel

/-- 8.3: the seventh byte of a broken run fails the check, and the window is trimmed to the next record's sync. -/
theorem test_lost_byte :
    (does (.fieldByte 0x5C#8) { staffed with
      receiver := { staffed.receiver with
        framing := .locked [0x5C#8, 1#8, 141#8, 1#8, 42#8, 0xA9#8] } }).receiver.framing = .searching [0x5C#8] ∧
    (does (.fieldByte 0x5C#8) { staffed with
      receiver := { staffed.receiver with
        framing := .locked [0x5C#8, 1#8, 141#8, 1#8, 42#8, 0xA9#8] } }).receiver.counts = ⟨0, 1, 0, 0⟩ := by
  decide +kernel

/-- The bleach plant shelf before the re-shelving of 205, with the area given to console 1. -/
def bleach (t : Word32) (l : List ShelfEntry) : State :=
  { at_ t (boiler 0) with
    shelf := l, areas := (boiler 0).areas.set 7 { (boiler 0).area 7 with owner := 1 } }

/-- 3.2: a re-shelved entry with the same expiry stands behind the other. -/
theorem test_reshelved_stands_behind :
    (does (.shelve 1 (ask 0 205 0 2 0)) (bleach 10480000#32
      [⟨205, 10600000#32, 1, 1207⟩, ⟨206, 10600000#32, 1, 1207⟩, ⟨207, 39120000#32, 1, 1207⟩])).shelf =
      [⟨206, 10600000#32, 1, 1207⟩, ⟨205, 10600000#32, 1, 1207⟩, ⟨207, 39120000#32, 1, 1207⟩] := by
  decide +kernel

/-- 3.2: 30 minutes from 4,294,000,000 pass the wrap of the run clock, and stand behind an earlier, larger expiry. -/
theorem test_expiry_across_the_wrap :
    (does (.shelve 1 (ask 0 205 0 30 0)) (bleach 4294000000#32 [⟨206, 4294600000#32, 1, 1207⟩])).shelf =
      [⟨206, 4294600000#32, 1, 1207⟩, ⟨205, 832704#32, 1, 1207⟩] := by
  decide +kernel

/-- 7.3: the slots of the P2 cadence. -/
theorem test_p2_cadence :
    [0, 2, 4, 8, 10].map (soundsIn (some .p2) · false) = [true, false, true, true, false] := by
  decide

/-- 7.5: bars of width 3 in the worked lamp test: red, amber, white at number 0, and amber, white, blue at number 4. -/
theorem test_bars :
    [0, 3, 6].map (barsCode { State.reset.pattern with bars := 4, width := 3 } 0) = [1, 4, 7] ∧
      [0, 3, 6].map (barsCode { State.reset.pattern with bars := 4, width := 3 } 4) = [4, 7, 10] ∧
      [0, 3, 6].map (barsCode { State.reset.pattern with bars := 4, width := 3 } 15) = [10, 1, 4] := by
  decide

/-- `boiler 0` with a journal FIFO of some records and the printer withdrawn. -/
def paperOut (n : Nat) : State :=
  { boiler 0 with
    points := (boiler 0).points.set 510 { pt .p2 0 .normal .normal none with area := 0 }
    journal := { State.reset.journal with
      fifo := List.replicate n (journalRecord staffed .raise .routine 0 0 0#6 0 0#32), ready := false } }

/-- Chapter 9: at 224 records RAISE 205 is dropped, point 510 raises, and its own record is dropped too. -/
theorem test_loss_raises_510 :
    ((does (.fieldRecord 1#8 0#8 205#8 1#8 0#8) (paperOut 224)).journal.fifo.length,
      (does (.fieldRecord 1#8 0#8 205#8 1#8 0#8) (paperOut 224)).journal.dropRoutine,
      ((does (.fieldRecord 1#8 0#8 205#8 1#8 0#8) (paperOut 224)).point 510).state) = (224, 2, .raised) := by
  decide +kernel

/-- Area 7 in the review of record 1 between consoles 2 (0415) and 3 (1207), under BOTH_P1, with point 140 RAISED. -/
def twoParties (ackSet : List Console) : State :=
  { boiler 0 with
    desks := staffed.desks.set 3 { staffed.desk 3 with signedOn := some 1 }
    records := staffed.records.set 1
      { review with
        outConsole := some 2, outOperator := some 415, inConsole := some 3, inOperator := some 1207, areas := 0x80#24 }
    areas := (boiler 0).areas.set 7
      { (boiler 0).area 7 with record := some 1, jointAck := .bothP1, unack := ⟨1, 0, 0, 0⟩ }
    points := (boiler 0).points.set 140
      { pt .p1 0 .active .raised (some 9) with area := 7, ackSet := ackSet } }

/-- 1.6: the first party's acknowledgement of a priority-1 point is partial, and a second from it is refused STATE. -/
theorem test_partial_then_state :
    ((does (.ackPoint 3 (ask 0 140 0 0 0)) (twoParties [])).point 140).ackSet = [3] ∧
      (reply (does (.ackPoint 3 (ask 0 140 0 0 0)) (twoParties [3])) 3).1 = .state ∧
      (reply (does (.ackPoint 1 (ask 0 140 0 0 0)) (twoParties [3])) 1).1 = .noAuthority := by
  decide +kernel

/-- 1.6: the other party completes it, and so does the supervisor's override. -/
theorem test_two_parties_complete :
    ((does (.ackPoint 2 (ask 0 140 0 0 0)) (twoParties [3])).point 140).state = .standing ∧
      ((does (.ackPoint 0 (ask 0 140 1 0 0)) (twoParties [2])).point 140).state = .standing ∧
      ((does (.ackPoint 0 (ask 0 140 1 0 0)) (twoParties [2])).point 140).ackSet = [] := by
  decide +kernel

/-- Chapter 10: page 0 of HO_READ has fourteen bytes, and READ_MORE 2 returns the last four and one byte 0. -/
theorem test_read_across_frames :
    ((does (.hoRead 3 (ask 1 0 0 0 0)) (twoParties [])).port 3).result.length = 14 ∧
      (reply (does (.readMore 3 (ask 2 0 0 0 0)) (does (.hoRead 3 (ask 1 0 0 0 0)) (twoParties []))) 3) =
        (.ok, [0xB7#8, 0#8, 0#8, 0x80#8, 0#8]) := by
  decide +kernel

/-- 10.3: frames read from the command table: ACK_AREA, SHELVE, HO_TAKE, JOURNAL_STOP, CFG_BOARD; HO_FORCE by its
action; an unlisted code; and a ninth byte cut short. -/
theorem test_frames :
    decodeFrame 2 [0x21, 0x11, 7, 0, 0, 0, 0, 0x37] 0 = .ackArea 2 (ask 7 0 0 0 0) ∧
    decodeFrame 1 [0x30, 0x11, 0, 205, 0, 10, 0, 0xE6] 0 = .shelve 1 (ask 0 205 0 10 0) ∧
    decodeFrame 3 [0x48, 0x11, 1, 0, 0, 0, 0, 0x58] 0 = .hoTake 3 (ask 1 0 0 0 0) ∧
    decodeFrame 0 [0x52, 0x11, 0, 0, 0, 0, 0, 0x43] 0 = .journalStop 0 (ask 0 0 0 0 0) ∧
    decodeFrame 0 [0x66, 0x11, 1, 2, 0, 0, 0, 0x74] 0 = .cfgBoard 0 (ask 1 2 0 0 0) ∧
    decodeFrame 0 [0x49, 0x11, 1, 0, 0, 0, 0, 0x59] 0 = .hoForceCommit 0 (ask 1 0 0 0 0) ∧
    decodeFrame 0 [0x49, 0x11, 1, 1, 0, 0, 0, 0x58] 0 = .hoForceCancel 0 (ask 1 1 0 0 0) ∧
    decodeFrame 0 [0x7F, 0x11, 0, 0, 0, 0, 0, 0x6E] 0 = .badCommand 0 0x7F#8 (ask 0 0 0 0 0) ∧
    decodeFrame 2 [0x21, 0x11, 7, 0, 0, 0, 0, 0x37] 3 = .shortFrame 2 := by
  decide

/-- A board with tile 31 red, tile 7 amber and tile 0 blue, at a count of its frame. -/
def wired (n : Nat) : Board :=
  { State.reset.board with
    scanner := .scanning, count := n
    words := ((State.reset.board.words.set 31 (colourWord 0)).set 7 (colourWord 1)).set 0 (colourWord 3) }

/-- 7.4: line 3 goes first and its highest tile first, red bit first; line 0 goes last, tile 0 at its end, and the latch
output is pulsed in the latch line. -/
theorem test_board_lines :
    (wired 9).drive.data = List.replicate 32 false ∧ (wired 10).drive.data = true :: List.replicate 31 false ∧
      (wired 25).drive.data = [false, true] ++ List.replicate 29 false ++ [true] ∧
      ((wired 29).drive.latch, (wired 30).drive.latch, (wired 30).drive.data) = (false, true, []) ∧
      ((wired 29).tick.chain[0], (wired 29).tick.chain[7]) = (colourWord 3, colourWord 1) := by
  decide +kernel

/-- 9.4: a waiting byte is due at the tick that sees ready asserted, and an assertion withdrawn before a tick sees it
lets no byte begin. -/
theorem test_waiting_byte_begins_at_its_tick :
    let sent : State := does (.journalByteSent true) (waits false)
    let seen : Journal := (advance true sent).journal
    let unseen : Journal := (advance false sent).journal
    (sent.journal.lineByte, sent.journal.ready, seen.resumeDue, unseen.resumeDue) = (.none, true, true, false) ∧
      ((does .journalReadyResume (waits true)).journal.lineByte,
        (does .journalReadyResume sent).journal.lineByte) = (.unit, .none) := by
  decide +kernel

/-- R163: the byte under way at a JOURNAL_RESET, here the kind code of an ACK, is finished, also where a JOURNAL_START
and a second JOURNAL_RESET follow before its end. -/
theorem test_reset_finishes_the_byte_under_way :
    let cut := does (.journalReset 0 (ask 0 0 0 0 0)) (sender .streaming (some .record) .unit 1)
    (cut.journal.unit, cut.journal.lineOut) = (none, some 0x03#8) ∧
      (does (.journalReset 0 (ask 0 0 0 0 0)) (does (.journalStart 0 (ask 0 0 0 0 0)) cut)).journal.lineOut =
        some 0x03#8 := by
  decide +kernel

/-- 5.2: the tick stops at a record that lapses, before it has counted the next. -/
theorem test_tick_stops_at_a_lapse :
    let t : State := does (.secondsTick false) { twoRecords with time := { twoRecords.time with secondsDue := true } }
    (t.time.rest, (t.record 0).timer, (t.record 1).timer) = (some ⟨0, false⟩, 1, 2) := by
  decide +kernel

end Sys2Proof.Tests
end

section
/-! The attendance test (R5): what its parts say, and the two arms. -/

namespace Sys2Proof.Machine

theorem qualified_iff {op : Operator} {cls : Fin 7} :
    qualified op cls = true ↔ (op.role = .operator ∨ op.role = .supervisor) ∧ op.classes.getLsbD cls = true := by
  unfold qualified
  cases op.role <;> simp

theorem State.qualifiedAt_iff {s : State} {c : Console} {a : AreaNo} :
    s.qualifiedAt c a = true ↔ ∃ op, s.operatorAt c = some op ∧
      (op.role = .operator ∨ op.role = .supervisor) ∧ op.classes.getLsbD (s.area a).reqClass = true := by
  simp only [State.qualifiedAt, Option.any_eq_true, qualified_iff]

theorem State.incomingIn_iff {s : State} {c : Console} {a : AreaNo} :
    s.incomingIn c a = true ↔ ∃ r : RecordNo, (s.area a).record = some r ∧ (s.record r).phase = .reviewing ∧
      (s.record r).inConsole = some c := by
  unfold State.incomingIn
  cases (s.area a).record <;> simp

theorem any_allFour {f : Fin 4 → Bool} : allFour.any f = true ↔ ∃ c, f c = true := by
  have mem_allFour : ∀ c : Fin 4, c ∈ allFour := by decide
  simp [List.any_eq_true, mem_allFour]

/-- R5: the owner's arm and the incoming console's arm; the pass over the four consoles misses none. -/
theorem attendanceTest_iff {s : State} {a : AreaNo} :
    attendanceTest s a = true ↔
      (s.presentAt (s.area a).owner = true ∧ s.qualifiedAt (s.area a).owner a = true) ∨
      ∃ c, s.incomingIn c a = true ∧ s.presentAt c = true ∧ s.qualifiedAt c a = true := by
  simp only [attendanceTest, Bool.or_eq_true, Bool.and_eq_true, any_allFour, and_assoc]

end Sys2Proof.Machine

namespace Sys2Proof.Proofs

open Sys2Proof.Machine

/-- Settles O14: the incoming console's arm names its record, and each arm's operator is read off `qualifiedAt`. -/
theorem attendanceTestIsTheTwoArms : Obligations.AttendanceTestIsTheTwoArms := by
  intro s a holds
  have arm_iff (c : Console) : s.presentAt c = true ∧ s.qualifiedAt c a = true ↔ holds c :=
    and_congr_right' State.qualifiedAt_iff
  rw [attendanceTest_iff]
  refine or_congr (arm_iff _) ?_
  constructor
  · rintro ⟨c, incoming, arm⟩
    obtain ⟨r, held, reviewing, isIncoming⟩ := State.incomingIn_iff.mp incoming
    exact ⟨r, c, held, reviewing, isIncoming, (arm_iff c).mp arm⟩
  · rintro ⟨r, c, held, reviewing, isIncoming, arm⟩
    exact ⟨c, State.incomingIn_iff.mpr ⟨r, held, reviewing, isIncoming⟩, (arm_iff c).mpr arm⟩

end Sys2Proof.Proofs
end

section
/-! The framing rules (R142, R143): one equation per row of each table, and the field receiver's two events. -/

namespace Sys2Proof.Machine

variable {s : State} {held window : List Byte} {b : Byte}

/-- The search for the next sync byte is the library's `dropWhile`. -/
theorem fromSync_eq_dropWhile (l : List Byte) : fromSync l = l.dropWhile (· ≠ syncByte) := by
  induction l with
  | nil => rfl
  | cons b rest ih => by_cases h : b = syncByte <;> simp [fromSync, h, ih]

/-! R142: the rows of LOCKED. -/

theorem lockedByte_sync : lockedByte s [] syncByte = s.setFraming (.locked [syncByte]) := rfl

theorem lockedByte_wrong_first (hb : b ≠ syncByte) :
    lockedByte s [] b = (countFraming s).setFraming (.searching []) := by
  simp [lockedByte, hb]

theorem lockedByte_gathers (started : held ≠ []) (short : held.length < 6) :
    lockedByte s held b = s.setFraming (.locked (held ++ [b])) := by
  simp [lockedByte, started, short]

theorem lockedByte_valid (six : held.length = 6) (hsum : byteSum (held ++ [b]) = 0#8) :
    lockedByte s held b = handleRun (s.setFraming (.locked [])) (held ++ [b]) := by
  have started : held ≠ [] := List.ne_nil_of_length_eq_add_one six
  simp [lockedByte, started, six, hsum]

theorem lockedByte_failed (six : held.length = 6) (hsum : byteSum (held ++ [b]) ≠ 0#8) :
    lockedByte s held b = (countCheck s).setFraming (.searching (fromSync (held.tail ++ [b]))) := by
  have started : held ≠ [] := List.ne_nil_of_length_eq_add_one six
  simp [lockedByte, started, six, hsum]

/-! R143: the rows of SEARCHING. -/

theorem searchingByte_sync : searchingByte s [] syncByte = s.setFraming (.searching [syncByte]) := rfl

theorem searchingByte_skips (hb : b ≠ syncByte) : searchingByte s [] b = s := by
  simp [searchingByte, hb]

theorem searchingByte_gathers (started : window ≠ []) (short : window.length < 6) :
    searchingByte s window b = s.setFraming (.searching (window ++ [b])) := by
  simp [searchingByte, started, short]

theorem searchingByte_valid (six : window.length = 6) (hsum : byteSum (window ++ [b]) = 0#8) :
    searchingByte s window b = handleRun (s.setFraming (.locked [])) (window ++ [b]) := by
  have started : window ≠ [] := List.ne_nil_of_length_eq_add_one six
  simp [searchingByte, started, six, hsum]

theorem searchingByte_failed (six : window.length = 6) (hsum : byteSum (window ++ [b]) ≠ 0#8) :
    searchingByte s window b = s.setFraming (.searching (fromSync (window.tail ++ [b]))) := by
  have started : window ≠ [] := List.ne_nil_of_length_eq_add_one six
  simp [searchingByte, started, six, hsum]

/-! R140: the two events. -/

theorem exec_fieldByte_of_locked (h : s.receiver.framing = .locked held) :
    exec (.fieldByte b) s = .next (settle (lockedByte s held b)) := by
  change event (receiveByte s b) = _
  simp only [receiveByte, h, event]

theorem exec_fieldByte_of_searching (h : s.receiver.framing = .searching window) :
    exec (.fieldByte b) s = .next (settle (searchingByte s window b)) := by
  change event (receiveByte s b) = _
  simp only [receiveByte, h, event]

theorem exec_fieldLineError_of_locked (h : s.receiver.framing = .locked held) :
    exec .fieldLineError s = .next (settle ((countFraming s).setFraming (.searching []))) := by
  change event (lineError s) = _
  simp only [lineError, h, event]

theorem exec_fieldLineError_of_searching (h : s.receiver.framing = .searching window) :
    exec .fieldLineError s = .next (settle (s.setFraming (.searching []))) := by
  change event (lineError s) = _
  simp only [lineError, h, event]

end Sys2Proof.Machine

namespace Sys2Proof.Proofs

open Sys2Proof.Machine

/-- Settles O46: the rows of each framing state, by the number of bytes held and the seven bytes' sum. -/
theorem framingTakesEachByte : Obligations.FramingTakesEachByte := by
  intro s b l k put framing check sum resync taken goes
  have resync_eq (l : List Byte) : fromSync l = resync l := fromSync_eq_dropWhile l
  have started (h : 1 ≤ l.length) : l ≠ [] := List.ne_nil_of_length_pos h
  constructor
  · intro locked
    have goes_of {t : State} (row : lockedByte s l b = t) : goes t :=
      row ▸ exec_fieldByte_of_locked locked
    refine ⟨?first, ?wrongFirst, ?gathers, ?valid, ?failed, exec_fieldLineError_of_locked locked⟩
    case first => rintro rfl rfl; exact goes_of lockedByte_sync
    case wrongFirst => rintro rfl hb; exact goes_of (lockedByte_wrong_first hb)
    case gathers => intro one five; exact goes_of (lockedByte_gathers (started one) (by omega))
    case valid => intro six hsum; exact goes_of (lockedByte_valid six hsum)
    case failed => intro six hsum; rw [← resync_eq]; exact goes_of (lockedByte_failed six hsum)
  · intro searching
    have goes_of {t : State} (row : searchingByte s l b = t) : goes t :=
      row ▸ exec_fieldByte_of_searching searching
    refine ⟨?first, ?skips, ?gathers, ?valid, ?failed, exec_fieldLineError_of_searching searching⟩
    case first => rintro rfl rfl; exact goes_of searchingByte_sync
    case skips => rintro rfl hb; exact goes_of (searchingByte_skips hb)
    case gathers => intro one five; exact goes_of (searchingByte_gathers (started one) (by omega))
    case valid => intro six hsum; exact goes_of (searchingByte_valid six hsum)
    case failed => intro six hsum; rw [← resync_eq]; exact goes_of (searchingByte_failed six hsum)

end Sys2Proof.Proofs
end

section
/-! The output pins (R119, R127, R132, R170): every command ends by driving them from the state it leaves, and a driven
state's pins agree with it, block by block. -/

namespace Sys2Proof.Machine

/-- Every command answers a state whose outputs have just been driven. -/
theorem exec_driven (i : Instr) (s : State) : ∃ u, exec i s = .next (settle u) := by
  cases i <;> exact ⟨_, rfl⟩

/-- A step idles on an empty queue or runs the front command. -/
theorem step_cases {s t : State} (h : step s = .next t) :
    (s.pending = [] ∧ t = s) ∨
    ∃ c rest, s.pending = c :: rest ∧ exec c { s with pending := rest } = .next t := by
  unfold step at h
  split at h
  · next e => exact .inl ⟨e, (Host.Outcome.next.inj h).symm⟩
  · next c rest e => exact .inr ⟨c, rest, e, h⟩

/-! The horns. -/

/-- Driving the outputs leaves every console's demand. -/
@[simp] theorem hornDemand_settle (s : State) (c : Console) : hornDemand (settle s) c = hornDemand s c := by
  simp only [hornDemand, inDemand, settle_horn, settle_points]

@[simp] theorem demandPriority_settle (s : State) (c : Console) :
    demandPriority (settle s) c = demandPriority s c := by
  simp only [demandPriority, hornDemand_settle]

theorem soundsIn_iff (demand : Option Priority) (slot : Nat) (chirp : Option Word32) :
    soundsIn demand slot chirp.isSome = true ↔ Sounds demand slot chirp := by
  unfold soundsIn Sounds
  split <;> simp [Option.isSome_iff_ne_none]

/-! The interrupt lines. -/

/-- R170: the line is driven while some flag is both set and open. -/
theorem Port.lineDriven_iff (p : Port) :
    p.lineDriven = true ↔ ∃ k, p.flags.getLsbD k = true ∧ p.mask.getLsbD k = true := by
  have none_iff : p.flags &&& p.mask = 0#9 ↔ ∀ k, ¬ (p.flags.getLsbD k = true ∧ p.mask.getLsbD k = true) := by
    constructor
    · intro e k
      have := congrArg (·.getLsbD k) e
      simpa [BitVec.getLsbD_and] using this
    · intro h
      apply BitVec.eq_of_getLsbD_eq
      intro k _
      simpa [BitVec.getLsbD_and] using h k
  unfold Port.lineDriven
  rw [bne_iff_ne, Ne, none_iff]
  simp

/-! The common alarm line. -/

theorem Area.isEscalated_iff (e : Area) : e.isEscalated = true ↔ ∃ t, e.attendance = .escalated t := by
  unfold Area.isEscalated
  split <;> simp_all

@[simp] theorem presentAt_settle (s : State) (c : Console) : (settle s).presentAt c = s.presentAt c := rfl

/-- What one pass over the area table finds of some area. -/
theorem any_areas_iff (s : State) (f : Area → Bool) : s.areas.toList.any f = true ↔ ∃ a, f (s.area a) = true := by
  simp only [List.any_eq_true, State.area]
  constructor
  · rintro ⟨e, he, hf⟩
    obtain ⟨k, hk, rfl⟩ := List.mem_iff_getElem.mp he
    exact ⟨⟨k, by simpa using hk⟩, by simpa using hf⟩
  · rintro ⟨a, hf⟩
    exact ⟨_, by simp, hf⟩

theorem commonAlarmDriven_iff (s : State) :
    commonAlarmDriven s = true ↔ ∃ (a : AreaNo) (t : Word32),
      (s.area a).attendance = .escalated t ∧ ((s.area a).owner = 0 ∨ s.presentAt 0 = false) := by
  unfold commonAlarmDriven
  rw [any_areas_iff]
  simp only [Bool.and_eq_true, Bool.or_eq_true, beq_iff_eq, Bool.not_eq_true', Area.isEscalated_iff,
    exists_and_right]

/-! The board. -/

/-- R132: a line of 8 tiles, sent from its highest tile down. -/
theorem line_bits (words : Vector LampWord 32) {period : Nat} (lo : 2 ≤ period) (hi : period < 6) :
    (lineWords words period).flatMap LampWord.bits = [7, 6, 5, 4, 3, 2, 1, 0].flatMap fun k =>
      let w := words.toList.getD (8 * (5 - period) + k) .blank
      [w.red, w.amber, w.white, w.blue] := by
  have line : lineWords words period =
      [7, 6, 5, 4, 3, 2, 1, 0].map fun k => words.toList.getD (8 * (5 - period) + k) .blank := by
    rw [lineWords, if_neg (by omega), if_pos hi]
    apply List.ext_getElem
    · simp; omega
    · intro n h₁ h₂
      have hn : n < 8 := by simpa using h₂
      have inside (k : Nat) (hk : k < 8) : 8 * (5 - period) + k < 32 := by omega
      have full : min 8 (32 - 8 * (5 - period)) = 8 := by omega
      have first : 8 * (5 - period) < 32 := inside 0 (by omega)
      rw [List.getElem_map]
      interval_cases n <;> simp [List.getD_eq_getElem?_getD, inside, first, full]
  rw [line, List.flatMap_map]
  rfl

theorem Board.drive_outputsAgree (b : Board) : b.drive.outputsAgree := by
  unfold Board.outputsAgree
  by_cases idle : b.scanner = .stopped ∨ b.frameDue = true
  · have off : b.sending = false := by
      obtain h | h := idle <;> simp [Board.sending, h]
    simp [idle, Board.drive, off]
  · obtain ⟨scanning, running⟩ := not_or.mp idle
    have on : b.sending = true := by simp [Board.sending, scanning, running]
    rw [drive_scanner, drive_frameDue, if_neg idle]
    refine ⟨fun lead => ?_, fun lo hi => ?_, fun last => ?_⟩
    · have : ¬ 30 ≤ b.count := by simp at lead; omega
      simp only [drive_count] at lead
      simp [Board.drive, on, this, lineWords, lead, LampWord.bits, LampWord.blank]
    · have : ¬ 30 ≤ b.count := by simp at hi; omega
      simpa [Board.drive, on, this] using line_bits b.words lo hi
    · have : 30 ≤ b.count := by simp at last; omega
      have h1 : ¬ b.count / 5 < 2 := by omega
      have h2 : ¬ b.count / 5 < 6 := by omega
      simp [Board.drive, on, this, lineWords, h1, h2]

/-- R119, R127, R132, R170: whatever stood before, a state just driven has pins that agree with it. -/
theorem settle_pinsAgree (s : State) : (settle s).pinsAgree := by
  refine ⟨fun c => ?_, fun c => ?_, ?_, ?_⟩
  · rw [demandPriority_settle, settle_horn]
    simp only [settle_slots, hornDriven, soundsIn_iff]
  · rw [settle_port]
    exact (s.port c).lineDriven_iff
  · rw [settle_commonAlarm, commonAlarmDriven_iff]
    simp only [settle_area, presentAt_settle]
  · exact Board.drive_outputsAgree _

end Sys2Proof.Machine

namespace Sys2Proof.Proofs

open Sys2Proof.Machine

/-- Settles O55: a command ends by driving the pins, and an idle step keeps them. -/
theorem pinsFollowEveryStep : Obligations.PinsFollowEveryStep := by
  have after_exec (i : Instr) (s t : State) (h : exec i s = .next t) : t.pinsAgree := by
    obtain ⟨u, hu⟩ := exec_driven i s
    obtain rfl : settle u = t := Host.Outcome.next.inj (hu.symm.trans h)
    exact settle_pinsAgree u
  refine ⟨after_exec, fun s t agree h => ?_⟩
  obtain ⟨-, rfl⟩ | ⟨c, rest, -, hc⟩ := step_cases h
  · exact agree
  · exact after_exec _ _ _ hc

end Sys2Proof.Proofs
end

section
/-! The areas' counts (R7, R39): they count the points by the fields that `Point.counted` keeps, a point's change moves
the counts of every area by `recount`, and exact counts stay exact under it. -/

namespace Sys2Proof.Machine

/-- The fields of a point on which the counts of its area rest; every other field at one fixed value. -/
def Point.counted (q : Point) : Bool × AreaNo × Priority × Annunciation × Quality :=
  (q.configured, q.area, q.priority, q.state, q.quality)

/-- The seven counts of an area. -/
def Area.counts (e : Area) : PerPriority × Nat × Nat × Nat := (e.unack, e.standing, e.shelved, e.notGood)

/-- R7: the number of points that an area's count counts. -/
def State.counting (s : State) (f : Point → Bool) : Nat := s.points.toList.countP f

/-- R7: the counts of an area are the numbers of its configured points. -/
structure State.ExactAt (s : State) (a : AreaNo) : Prop where
  p1 : (s.area a).unack.p1 = s.counting (countsUnack · a .p1)
  p2 : (s.area a).unack.p2 = s.counting (countsUnack · a .p2)
  p3 : (s.area a).unack.p3 = s.counting (countsUnack · a .p3)
  p4 : (s.area a).unack.p4 = s.counting (countsUnack · a .p4)
  standing : (s.area a).standing = s.counting (countsStanding · a)
  shelved : (s.area a).shelved = s.counting (countsShelved · a)
  notGood : (s.area a).notGood = s.counting (countsNotGood · a)

theorem State.countsExact_iff (s : State) : s.countsExact ↔ ∀ a, s.ExactAt a := by
  have unack (a : AreaNo) (pr : Priority) :
      (fun q : Point => q.configured && q.area == a && (q.priority == pr && (q.state == .raised || q.state == .returned))) =
        (countsUnack · a pr) := by
    funext q
    simp only [countsUnack, Point.unacknowledged, Bool.and_assoc]
  unfold State.countsExact
  refine forall_congr' fun a => ?_
  simp only [← List.countP_eq_length_filter, unack]
  constructor
  · rintro ⟨h, hst, hsh, hng⟩
    exact ⟨h .p1, h .p2, h .p3, h .p4, hst, hsh, hng⟩
  · rintro ⟨h1, h2, h3, h4, hst, hsh, hng⟩
    refine ⟨fun pr => ?_, hst, hsh, hng⟩
    cases pr with
    | p1 => exact h1
    | p2 => exact h2
    | p3 => exact h3
    | p4 => exact h4

/-! Points that change, and counts that do not. -/

theorem countsUnack_congr {q q' : Point} (h : q.counted = q'.counted) (a : AreaNo) (pr : Priority) :
    countsUnack q a pr = countsUnack q' a pr := by
  simp only [Point.counted, Prod.mk.injEq] at h
  simp only [countsUnack, Point.unacknowledged, h]

theorem countsStanding_congr {q q' : Point} (h : q.counted = q'.counted) (a : AreaNo) :
    countsStanding q a = countsStanding q' a := by
  simp only [Point.counted, Prod.mk.injEq] at h
  simp only [countsStanding, h]

theorem countsShelved_congr {q q' : Point} (h : q.counted = q'.counted) (a : AreaNo) :
    countsShelved q a = countsShelved q' a := by
  simp only [Point.counted, Prod.mk.injEq] at h
  simp only [countsShelved, h]

theorem countsNotGood_congr {q q' : Point} (h : q.counted = q'.counted) (a : AreaNo) :
    countsNotGood q a = countsNotGood q' a := by
  simp only [Point.counted, Prod.mk.injEq] at h
  simp only [countsNotGood, h]

/-- Two states whose points a test finds alike are counted alike. -/
theorem State.counting_congr {s t : State} {f : Point → Bool} (h : ∀ p, f (t.point p) = f (s.point p)) :
    t.counting f = s.counting f := by
  have map_eq (u : State) : u.points.toList.map f = (List.finRange 512).map fun p => f (u.point p) := by
    apply List.ext_getElem <;> simp [State.point]
  have count_eq (u : State) : u.counting f = (u.points.toList.map f).countP id := by
    rw [List.countP_map]
    rfl
  rw [count_eq, count_eq, map_eq, map_eq]
  simp only [h]

/-- The points keep what is counted of them, and the areas their counts. -/
structure Tallied (s t : State) : Prop where
  points : ∀ p, (t.point p).counted = (s.point p).counted
  areas : ∀ a, (t.area a).counts = (s.area a).counts

theorem Tallied.refl (s : State) : Tallied s s := ⟨fun _ => rfl, fun _ => rfl⟩

theorem Tallied.trans {s t u : State} (h : Tallied s t) (k : Tallied t u) : Tallied s u :=
  ⟨fun p => (k.points p).trans (h.points p), fun a => (k.areas a).trans (h.areas a)⟩

theorem Tallied.countsExact {s t : State} (h : Tallied s t) (exact_s : s.countsExact) : t.countsExact := by
  rw [State.countsExact_iff] at exact_s ⊢
  intro a
  have e := exact_s a
  have counts := h.areas a
  simp only [Area.counts, Prod.mk.injEq] at counts
  obtain ⟨hu, hst, hsh, hng⟩ := counts
  exact
    { p1 := by rw [hu, e.p1]; exact (State.counting_congr fun p => countsUnack_congr (h.points p) a _).symm
      p2 := by rw [hu, e.p2]; exact (State.counting_congr fun p => countsUnack_congr (h.points p) a _).symm
      p3 := by rw [hu, e.p3]; exact (State.counting_congr fun p => countsUnack_congr (h.points p) a _).symm
      p4 := by rw [hu, e.p4]; exact (State.counting_congr fun p => countsUnack_congr (h.points p) a _).symm
      standing := by rw [hst, e.standing]; exact (State.counting_congr fun p => countsStanding_congr (h.points p) a).symm
      shelved := by rw [hsh, e.shelved]; exact (State.counting_congr fun p => countsShelved_congr (h.points p) a).symm
      notGood := by rw [hng, e.notGood]; exact (State.counting_congr fun p => countsNotGood_congr (h.points p) a).symm }

/-! A point's change (R39). -/

theorem bump_same (b : Bool) (n : Nat) : bump b b n = n := by cases b <;> rfl

/-- R39: an area that a point neither leaves nor joins keeps its counts. -/
theorem recount_elsewhere {a : AreaNo} {old new : Point} (ho : old.area ≠ a) (hn : new.area ≠ a) (e : Area) :
    recount a old new e = e := by
  simp [recount, countsUnack, countsStanding, countsShelved, countsNotGood, ho, hn, bump]

/-- R39: a change of none of the counted fields moves no count. -/
theorem recount_same {old new : Point} (h : new.counted = old.counted) (a : AreaNo) (e : Area) :
    recount a old new e = e := by
  simp [recount, countsUnack_congr h, countsStanding_congr h, countsShelved_congr h, countsNotGood_congr h, bump_same]

/-- R39: what a point's change makes of every area. -/
theorem State.area_setPoint (s : State) (p : PointNo) (q : Point) (a : AreaNo) :
    (s.setPoint p q).area a = recount a (s.point p) q (s.area a) := by
  unfold State.setPoint
  dsimp only
  rw [State.area_putPoint]
  split
  · next same =>
    unfold State.recountArea
    rw [State.area_setArea]
    split
    · next e => subst e; rfl
    · next e => exact (recount_elsewhere e (same ▸ e) _).symm
  · next moved =>
    unfold State.recountArea
    rw [State.area_setArea]
    split
    · next e => subst e; rw [State.area_setArea_other _ (Ne.symm moved)]
    · next e =>
      rw [State.area_setArea]
      split
      · next e' => subst e'; rfl
      · next e' => exact (recount_elsewhere e' e _).symm

theorem State.points_setPoint (s : State) (p : PointNo) (q : Point) : (s.setPoint p q).points = s.points.set p q := by
  unfold State.setPoint
  dsimp only
  split <;> rfl

theorem State.point_setPoint (s : State) (p p' : PointNo) (q : Point) :
    (s.setPoint p q).point p' = if p = p' then q else s.point p' := by
  have h : (s.setPoint p q).point p' = (s.putPoint p q).point p' := by
    simp only [State.point, State.points_setPoint, State.putPoint]
  rw [h, State.point_putPoint]

@[simp] theorem State.point_setPoint_same (s : State) (p : PointNo) (q : Point) : (s.setPoint p q).point p = q := by
  simp [State.point_setPoint]

theorem State.point_setPoint_other {s : State} {p p' : PointNo} (h : p ≠ p') (q : Point) :
    (s.setPoint p q).point p' = s.point p' := by
  simp [State.point_setPoint, h]

/-- R39: a point's change moves the number that a test finds by one, up or down, or not at all. -/
theorem State.counting_setPoint (s : State) (p : PointNo) (q : Point) (f : Point → Bool) :
    (s.setPoint p q).counting f = bump (f (s.point p)) (f q) (s.counting f) := by
  have found (h : f (s.point p) = true) : 0 < s.counting f := List.countP_pos_iff.mpr ⟨s.point p, by simp [State.point], h⟩
  have set_eq : (s.setPoint p q).counting f =
      s.counting f - (if f (s.point p) then 1 else 0) + (if f q then 1 else 0) := by
    unfold State.counting
    rw [State.points_setPoint, Vector.toList_set, List.countP_set (by simp)]
    rfl
  rw [set_eq]
  cases h : f (s.point p) <;> cases f q <;> simp [bump]
  have := found h
  omega

/-- R39: exact counts stay exact through any change of a point. -/
theorem setPoint_countsExact {s : State} (h : s.countsExact) (p : PointNo) (q : Point) : (s.setPoint p q).countsExact := by
  rw [State.countsExact_iff] at h ⊢
  intro a
  have e := h a
  constructor <;> rw [State.area_setPoint, State.counting_setPoint] <;> dsimp only [recount]
  · rw [e.p1]
  · rw [e.p2]
  · rw [e.p3]
  · rw [e.p4]
  · rw [e.standing]
  · rw [e.shelved]
  · rw [e.notGood]

end Sys2Proof.Machine
end

section
/-! What the shared operations keep in order besides their frames (Laws/Frame): which points are SHELVED (R56), every
record's checklist (R94), and exact counts (R39). -/

namespace Sys2Proof.Machine

/-- R94: the item sets of a record agree with its phase. -/
def HoRecord.Checked (h : HoRecord) : Prop :=
  (h.phase = .offered → h.presented = 0#16 ∧ h.confirmed = 0#16) ∧
  (h.phase = .reviewing → h.confirmed &&& ~~~h.presented = 0#16 ∧ h.presented.getLsbD 0 = true)

/-- An effect that moves no point on or off the shelf, and keeps checklists and counts as they should be. -/
structure Orderly (s t : State) : Prop where
  shelved : ∀ p, (t.point p).state = .shelved ↔ (s.point p).state = .shelved
  checklists : s.checklistsSound → t.checklistsSound
  counts : s.countsExact → t.countsExact

theorem Orderly.refl (s : State) : Orderly s s := ⟨fun _ => Iff.rfl, id, id⟩

theorem Orderly.trans {s t u : State} (h : Orderly s t) (k : Orderly t u) : Orderly s u :=
  ⟨fun p => (k.shelved p).trans (h.shelved p), k.checklists ∘ h.checklists, k.counts ∘ h.counts⟩

/-- A further effect, after a chain that keeps order. -/
theorem Orderly.after {s t u : State} (k : Orderly t u) (h : Orderly s t) : Orderly s u := h.trans k

theorem Orderly.foldl {α : Type} {f : State → α → State} (h : ∀ s x, Orderly s (f s x)) (l : List α) (s : State) :
    Orderly s (l.foldl f s) := by
  induction l generalizing s with
  | nil => exact .refl s
  | cons x l ih => exact (h s x).trans (ih _)

/-- An effect that keeps what is counted of points, the counts, and the records. -/
theorem Orderly.ofTallied {s t : State} (h : Tallied s t) (hr : t.records = s.records) : Orderly s t where
  shelved p := by
    have := h.points p
    simp only [Point.counted, Prod.mk.injEq] at this
    rw [this.2.2.2.1]
  checklists k n := by
    have e : t.record n = s.record n := by simp only [State.record, hr]
    rw [e]
    exact k n
  counts := h.countsExact

/-- An effect on neither points, areas nor records. -/
theorem Orderly.ofApart {s t : State} (hp : t.points = s.points) (ha : t.areas = s.areas) (hr : t.records = s.records) :
    Orderly s t :=
  .ofTallied ⟨fun p => by simp only [State.point, hp], fun a => by simp only [State.area, ha]⟩ hr

/-! ## Tables -/

theorem setPoint_orderly {s : State} {p : PointNo} {q : Point} (h : q.state = .shelved ↔ (s.point p).state = .shelved) :
    Orderly s (s.setPoint p q) where
  shelved p' := by
    rw [State.point_setPoint]
    split
    · next e => subst e; exact h
    · exact Iff.rfl
  checklists k n := by
    have e : (s.setPoint p q).record n = s.record n := by
      unfold State.setPoint
      dsimp only
      split <;> rfl
    rw [e]
    exact k n
  counts k := setPoint_countsExact k p q

theorem putPoint_orderly {s : State} {p : PointNo} {q : Point} (h : q.counted = (s.point p).counted) :
    Orderly s (s.putPoint p q) :=
  .ofTallied
    { points := fun p' => by
        rw [State.point_putPoint]
        split
        · next e => subst e; exact h
        · rfl
      areas := fun _ => rfl } rfl

theorem setArea_orderly {s : State} {a : AreaNo} {e : Area} (h : e.counts = (s.area a).counts) :
    Orderly s (s.setArea a e) :=
  .ofTallied
    { points := fun _ => rfl
      areas := fun b => by
        rw [State.area_setArea]
        split
        · next e => subst e; exact h
        · rfl } rfl

/-- R94: a record written with its item sets in agreement keeps every checklist sound. -/
theorem setRecord_checklists {s : State} (k : s.checklistsSound) (r : RecordNo) {h : HoRecord} (hc : h.Checked) :
    (s.setRecord r h).checklistsSound := by
  intro n
  rw [State.record_setRecord]
  split
  · exact hc
  · exact k n

theorem setRecord_orderly {s : State} {r : RecordNo} {h : HoRecord} (hc : (s.record r).Checked → h.Checked) :
    Orderly s (s.setRecord r h) :=
  ⟨fun _ => Iff.rfl, fun k => setRecord_checklists k r (hc (k r)), id⟩

/-- An effect on the points that keeps what is counted of each. -/
theorem Orderly.ofPoints {s : State} (v : Vector Point 512) (h : ∀ p : PointNo, (v[p]).counted = (s.point p).counted) :
    Orderly s { s with points := v } :=
  .ofTallied ⟨h, fun _ => rfl⟩ rfl

/-! ## Flags and the journal -/

theorem setFlag_orderly (f : EventFlag) (s : State) (c : Console) : Orderly s (setFlag f s c) := .ofApart rfl rfl rfl

theorem setFlagAt_orderly (f : EventFlag) (l : List Console) (s : State) : Orderly s (setFlagAt f l s) :=
  Orderly.foldl (fun s c => setFlag_orderly f s c) l s

theorem setFlagInScope_orderly (f : EventFlag) (s : State) (a : AreaNo) : Orderly s (setFlagInScope f s a) :=
  setFlagAt_orderly f _ s

theorem setFlagParty_orderly (f : EventFlag) (c : Option Console) (s : State) : Orderly s (setFlagParty f c s) := by
  cases c with
  | none => exact .refl s
  | some c => exact setFlag_orderly f s c

theorem lossChange_orderly (i : Input) (s : State) : Orderly s (lossChange i s) := by
  rw [lossChange_eq]
  exact (setFlagAt_orderly ..).after (.ofApart rfl rfl rfl)

theorem offerAlone_orderly (s : State) (r : JournalRecord) : Orderly s (offerAlone s r) := by
  unfold offerAlone
  dsimp only
  split
  · exact .ofApart rfl rfl rfl
  · split
    · exact .ofApart rfl rfl rfl
    · exact (lossChange_orderly ..).after (.ofApart rfl rfl rfl)

/-- A way of offering a record that keeps order. -/
def Offer.Orders (off : Offer) : Prop := ∀ s r, Orderly s (off s r)

theorem offerRecord_orderly : Offer.Orders offerRecord := by
  intro s r
  unfold offerRecord
  dsimp only
  split
  · split
    · exact (lossChange_orderly ..).after (.ofApart rfl rfl rfl)
    · exact .ofApart rfl rfl rfl
  · exact offerAlone_orderly s r

/-! ## The sequencer -/

theorem unsilence_orderly (p : PointNo) (s : State) : Orderly s (unsilence p s) := .ofApart rfl rfl rfl

theorem recomputeScopes_orderly (s : State) : Orderly s (recomputeScopes s) := .ofApart rfl rfl rfl

theorem checklistEvents_orderly (before now : HoRecord) (s : State) : Orderly s (checklistEvents before now s) := by
  have tell (b : Bool) (c : Option Console) (s : State) :
      Orderly s (if b then setFlagParty .checklist c s else s) := by
    split
    · exact setFlagParty_orderly ..
    · exact .refl _
  unfold checklistEvents
  split
  · exact (tell _ _ s).trans (tell _ _ _)
  · exact .refl _

/-- R97: an item no longer confirmed leaves the confirmed items among the presented ones. -/
theorem checked_and (h : HoRecord) (hc : h.Checked) (m : ItemSet) : ({ h with confirmed := h.confirmed &&& m } : HoRecord).Checked := by
  obtain ⟨offered, reviewing⟩ := hc
  refine ⟨fun ph => ?_, fun ph => ?_⟩
  · obtain ⟨hp, hcf⟩ := offered ph
    exact ⟨hp, by simp [hcf]⟩
  · obtain ⟨sub, item0⟩ := reviewing ph
    refine ⟨?_, item0⟩
    dsimp only
    rw [BitVec.and_assoc, BitVec.and_comm m, ← BitVec.and_assoc, sub, BitVec.zero_and]

theorem clearItem0_orderly (s : State) (a : AreaNo) : Orderly s (clearItem0 s a) := by
  unfold clearItem0
  split
  · exact .refl _
  · dsimp only
    split
    · exact (checklistEvents_orderly ..).after (setRecord_orderly fun hc => checked_and _ hc _)
    · exact .refl _

theorem judgeHold_orderly (s : State) (a : AreaNo) : Orderly s (judgeHold s a) := by
  unfold judgeHold
  split
  · exact .refl _
  · dsimp only
    split
    · exact setRecord_orderly id
    · exact .refl _

theorem floodRaise_orderly {off : Offer} (ho : off.Orders) (s : State) (a : AreaNo) (p : Priority) :
    Orderly s (floodRaise off s a p) := by
  unfold floodRaise
  dsimp only
  split
  · exact (judgeHold_orderly ..).after <| (setFlagInScope_orderly ..).after <| (ho _ _).after <|
      (setArea_orderly (by rw [State.area_setArea_same]; rfl)).after (setArea_orderly rfl)
  · exact setArea_orderly rfl

theorem firstOutRaise_orderly {off : Offer} (ho : off.Orders) (s : State) (p : PointNo) :
    Orderly s (firstOutRaise off s p) := by
  unfold firstOutRaise
  dsimp only
  split
  · exact .refl _
  · split
    · refine (ho _ _).after (Orderly.trans (putPoint_orderly (s := s) (p := p) ?_) (.ofApart rfl rfl rfl))
      rfl
    · split
      · exact putPoint_orderly rfl
      · exact .refl _

theorem rearm_orderly (g : GroupNo) (s : State) : Orderly s (rearm g s) := by
  refine Orderly.trans (Orderly.ofPoints (mapTable (fun q => if isMember g q then { q with firstMark := none } else q)
    s.points) fun p => ?_) (.ofApart rfl rfl rfl)
  rw [mapTable_getElem]
  split <;> rfl

theorem toldNormal_orderly (s : State) (p : PointNo) : Orderly s (toldNormal s p) := by
  unfold toldNormal
  split
  · exact .refl _
  · split
    · exact .refl _
    · split
      · exact rearm_orderly ..
      · exact .refl _

theorem markQuiet_orderly (s : State) (p : PointNo) (b : Bool) : Orderly s (markQuiet s p b) := putPoint_orderly rfl

theorem startChirps_orderly (s : State) (a : AreaNo) : Orderly s (startChirps s a) := .ofApart rfl rfl rfl

theorem announceRaise_orderly (s : State) (a : AreaNo) (p : Priority) (b : Bool) : Orderly s (announceRaise s a p b) := by
  unfold announceRaise
  split
  · exact .refl s
  · split
    · exact (startChirps_orderly ..).after (setFlagInScope_orderly ..)
    · exact setFlagInScope_orderly ..

/-- R31: the step that makes a point RAISED is the only one of a raise that moves a point. -/
theorem raisePoint_after_start {off : Offer} (ho : off.Orders) (s : State) (p : PointNo) :
    Orderly (startRaise s p) (raisePoint off s p) :=
  (ho _ _).after <| (announceRaise_orderly ..).after <| (clearItem0_orderly ..).after <|
    (firstOutRaise_orderly ho _ _).after <| (markQuiet_orderly ..).after (floodRaise_orderly ho _ _ _)

/-- R30: a raise of a point that is not on the shelf. -/
theorem startRaise_orderly {s : State} {p : PointNo} (h : (s.point p).state ≠ .shelved) : Orderly s (startRaise s p) :=
  (unsilence_orderly ..).after <| Orderly.trans (setPoint_orderly (by simpa [Point.startEpisode] using h))
    (.ofApart rfl rfl rfl)

theorem raisePoint_orderly {off : Offer} (ho : off.Orders) {s : State} {p : PointNo}
    (h : (s.point p).state ≠ .shelved) : Orderly s (raisePoint off s p) :=
  (startRaise_orderly h).trans (raisePoint_after_start ho s p)

theorem stepInput_orderly {off : Offer} (ho : off.Orders) (s : State) (p : PointNo) : Orderly s (stepInput off s p) := by
  unfold stepInput
  dsimp only
  split
  · next h => exact raisePoint_orderly ho (by simp [h])
  · next h => exact raisePoint_orderly ho (by simp [h])
  · next h => exact (ho _ _).after <| (unsilence_orderly ..).after (setPoint_orderly (by simp [h]))
  · next h => exact (toldNormal_orderly ..).after <| (ho _ _).after (setPoint_orderly (by simp [h, Point.endEpisode]))
  · exact .refl _

theorem pointInput_orderly {off : Offer} (ho : off.Orders) (s : State) (p : PointNo) (i : Input) (ql : Quality) :
    Orderly s (pointInput off s p i ql) := by
  have judged : Orderly s (s.setPoint p { s.point p with quality := ql }) := setPoint_orderly Iff.rfl
  unfold pointInput
  dsimp only
  split
  · split
    · exact judged
    · refine (stepInput_orderly ho _ p).after (judged.trans ?_)
      exact putPoint_orderly (by rfl)
  · exact .refl _

theorem give510_orderly (n : Nat) (s : State) : Orderly s (give510 n s) := by
  induction n generalizing s with
  | zero => exact .refl s
  | succ n ih =>
    unfold give510
    split
    · exact .refl s
    · exact (ih _).after <| (pointInput_orderly offerRecord_orderly _ 510 _ _).after (.ofApart rfl rfl rfl)

theorem settle510_orderly (s : State) : Orderly s (settle510 s) := give510_orderly ..

theorem offer_orderly : Offer.Orders offer := fun s r => (offerRecord_orderly s r).trans (settle510_orderly _)

theorem handled_orderly {s : State} {f : Offer → State → State} (p : PointNo)
    (h : ∀ off, Offer.Orders off → Orderly s (f off s)) : Orderly s (handled p f s) := by
  unfold handled
  split
  · exact (h _ offerRecord_orderly).trans (settle510_orderly _)
  · exact h _ offer_orderly

theorem systemPoint_orderly (s : State) (p : PointNo) (i : Input) : Orderly s (systemPoint s p i) := by
  unfold systemPoint
  split
  · exact handled_orderly p fun _ ho => pointInput_orderly ho s p i .good
  · exact .refl s

/-! ## Acknowledgements -/

theorem ackPartnerEvents_orderly (c : Console) (l : List Console) (s : State) : Orderly s (ackPartnerEvents c l s) := by
  unfold ackPartnerEvents
  split
  · exact setFlagAt_orderly ..
  · exact .refl s

theorem acknowledge_not_shelved (q : Point) (i : AckInfo) : (q.acknowledge i).state ≠ .shelved := by
  unfold Point.acknowledge
  dsimp only
  split <;> simp [Point.endEpisode]

theorem Point.unacknowledged_iff (q : Point) : q.unacknowledged = true ↔ q.state = .raised ∨ q.state = .returned := by
  simp [Point.unacknowledged]

theorem Point.not_shelved_of_unacknowledged {q : Point} (h : q.unacknowledged = true) : q.state ≠ .shelved := by
  obtain h | h := (Point.unacknowledged_iff q).mp h <;> simp [h]

theorem stepAck_orderly {s : State} {p : PointNo} (h : (s.point p).unacknowledged = true) (c : Console) (op : Nat)
    (b : Bool) : Orderly s (stepAck s p c op b) := by
  have told := ackPartnerEvents_orderly c (s.point p).ackSet s
  refine (unsilence_orderly ..).after (told.trans (setPoint_orderly ?_))
  rw [told.shelved p]
  exact iff_of_false (acknowledge_not_shelved _ _) (Point.not_shelved_of_unacknowledged h)

theorem completeAckWith_orderly {off : Offer} (ho : off.Orders) {s : State} {p : PointNo}
    (h : (s.point p).unacknowledged = true) (c : Console) (op : Nat) (b : Bool) :
    Orderly s (completeAckWith off s p c op b) := by
  have k := (ho (stepAck s p c op b) (ackRecord (stepAck s p c op b) p c op b)).after (stepAck_orderly h c op b)
  unfold completeAckWith
  dsimp only
  split
  · exact k.trans (toldNormal_orderly ..)
  · exact k

theorem completeAck_orderly {s : State} {p : PointNo} (h : (s.point p).unacknowledged = true) (c : Console) (op : Nat)
    (b : Bool) : Orderly s (completeAck s p c op b) :=
  handled_orderly p fun _ ho => completeAckWith_orderly ho h c op b

theorem partialAck_orderly (s : State) (p : PointNo) (c : Console) : Orderly s (partialAck s p c) := by
  unfold partialAck
  dsimp only
  split
  · exact (offer_orderly _ _).after (putPoint_orderly rfl)
  · exact (setFlagParty_orderly ..).after <| (offer_orderly _ _).after (putPoint_orderly rfl)

theorem settleAck_orderly {s : State} {p : PointNo} (h : (s.point p).unacknowledged = true) (c : Console) :
    Orderly s (settleAck s p c) := by
  unfold settleAck
  split
  · exact completeAck_orderly h ..
  · exact partialAck_orderly ..
  · exact .refl s

theorem visitAck_orderly (c : Console) (t : AckTally) (p : PointNo) : Orderly t.state (visitAck c t p).state := by
  unfold visitAck
  dsimp only
  split
  · next h =>
    split
    · exact settleAck_orderly h c
    · exact settleAck_orderly h c
    · exact .refl _
  · exact .refl _

/-- A chain of visits, each of which keeps order. -/
theorem tally_orderly {f : AckTally → PointNo → AckTally} (h : ∀ t p, Orderly t.state (f t p).state) (l : List PointNo)
    (t : AckTally) : Orderly t.state (l.foldl f t).state := by
  induction l generalizing t with
  | nil => exact .refl _
  | cons x l ih => exact (h t x).trans (ih _)

theorem ackPoints_orderly (s : State) (c : Console) (f : AreaNo → Bool) : Orderly s (ackPoints s c f).state :=
  tally_orderly (visitAck_orderly c) _ { state := s, completed := 0, recorded := 0 }

/-! ## Ends of records, attendance -/

theorem resolvePoint_orderly (set : AreaSet) (c : Console) (op : Nat) (t : AckTally) (p : PointNo) :
    Orderly t.state (resolvePoint set c op t p).state := by
  unfold resolvePoint
  dsimp only
  split
  · next h =>
    simp only [Bool.and_eq_true] at h
    exact completeAck_orderly h.1.2 ..
  · exact .refl _

theorem emptied_counted (b : Bool) (q : Point) : (if b then { q with ackSet := [] } else q).counted = q.counted := by
  cases b <;> rfl

theorem resolveAckSets_orderly (set : AreaSet) (c : Console) (op : Nat) (s : State) :
    Orderly s (resolveAckSets set c op s).state := by
  refine Orderly.after (Orderly.ofPoints _ fun p => ?_)
    (tally_orderly (resolvePoint_orderly set c op) _ { state := s, completed := 0, recorded := 0 })
  rw [mapTable_getElem]
  exact emptied_counted _ _

theorem setAttendance_orderly (s : State) (a : AreaNo) (t : Attendance) : Orderly s (s.setAttendance a t) :=
  setArea_orderly rfl

theorem endEscalation_orderly (s : State) (a : AreaNo) : Orderly s (endEscalation s a) := by
  have k : Orderly s (setFlag .presence (setFlag .presence (recomputeScopes (s.setAttendance a .attended)) 0)
      ((recomputeScopes (s.setAttendance a .attended)).area a).owner) :=
    (setFlag_orderly ..).after <| (setFlag_orderly ..).after <| (recomputeScopes_orderly _).after
      (setAttendance_orderly s a _)
  unfold endEscalation
  dsimp only
  split
  · exact k
  · exact k.trans (systemPoint_orderly ..)

theorem reevaluate_orderly (s : State) (a : AreaNo) : Orderly s (reevaluate s a) := by
  unfold reevaluate
  split
  · exact setAttendance_orderly ..
  · exact setAttendance_orderly ..
  · exact endEscalation_orderly ..
  · exact .refl s

theorem reevaluateAll_orderly (s : State) (l : List AreaNo) : Orderly s (reevaluateAll s l) :=
  Orderly.foldl reevaluate_orderly l s

theorem stepEscalated_orderly (s : State) (a : AreaNo) : Orderly s (stepEscalated s a) :=
  (recomputeScopes_orderly _).after (setAttendance_orderly ..)

theorem escalateArea_orderly (s : State) (a : AreaNo) : Orderly s (escalateArea s a) := by
  have k := (setFlag_orderly .presence _ (s.area a).owner).after <| (setFlag_orderly .presence _ 0).after <|
    (offer_orderly _ (escalateRecord (stepEscalated s a) a)).after (stepEscalated_orderly s a)
  unfold escalateArea
  dsimp only
  split
  · exact k
  · exact k.trans (systemPoint_orderly ..)

end Sys2Proof.Machine
end

section
/-! What a step keeps, in one relation (`Keeps`): the invariants of Safety.lean, the flags, the FIFO's records, the owners,
the clocks, the device state and the configuration, the last six but where a command may change them; and the rules for
the writers of the state's parts. -/

namespace Sys2Proof.Machine

/-- What only some commands may change. -/
inductive Aspect where
  | flags (c : Console)
  | fifo
  | owners
  | clock
  | offset
  | mode
  | settings

/-- The configuration of the part (R174): what no command writes IN_SERVICE. -/
structure Settings where
  points : PointNo → Point
  areas : AreaNo → Area
  timing : Timing
  weights : PerPriority
  decayShift : Nat
  pattern : Pattern
  refDivide : Nat
  rate : Nat
  roster : SlotNo → Option Operator

/-- The configuration that a state holds, every live field at one fixed value. -/
def State.settings (s : State) : Settings where
  points p := (s.point p).cfg
  areas a := (s.area a).cfg
  timing := s.timing
  weights := s.weights
  decayShift := s.decayShift
  pattern := s.pattern
  refDivide := s.time.refDivide
  rate := s.journal.rate
  roster k := (s.roster[k]).map Operator.signedOff

/-- Each invariant of the part, where the first state has it, the second has. -/
structure Sound (s t : State) : Prop where
  budget : s.journal.withinBudget → t.journal.withinBudget
  drops : s.journal.countersInRange → t.journal.countersInRange
  links : s.receiver.counts.inRange → t.receiver.counts.inRange
  loads : s.loadsInRange → t.loadsInRange
  counters : s.countsInRange → t.countsInRange
  chain : s.board.chainSound → t.board.chainSound
  shelf : s.shelfSound → t.shelfSound
  checklists : s.checklistsSound → t.checklistsSound
  records : s.recordsSound → t.recordsSound
  counts : s.countsExact → t.countsExact

/-- An effect that keeps every invariant, and everything else that is not among what it may change. -/
structure Keeps (may : Aspect → Prop) (s t : State) : Prop extends Sound s t where
  flags : ∀ c, ¬ may (.flags c) → (s.port c).flags &&& (t.port c).flags = (s.port c).flags
  fifo : ¬ may .fifo → s.journal.fifo <+: t.journal.fifo
  owners : ¬ may .owners → ∀ a, (t.area a).owner = (s.area a).owner
  clock : ¬ may .clock → t.time.runClock = s.time.runClock
  offset : ¬ may .offset → t.time.offset = s.time.offset
  mode : ¬ may .mode → t.mode = s.mode
  settings : ¬ may .settings → t.settings = s.settings

variable {may : Aspect → Prop} {s t u : State}

theorem Sound.refl (s : State) : Sound s s := ⟨id, id, id, id, id, id, id, id, id, id⟩

theorem Sound.trans (h : Sound s t) (k : Sound t u) : Sound s u where
  budget := k.budget ∘ h.budget
  drops := k.drops ∘ h.drops
  links := k.links ∘ h.links
  loads := k.loads ∘ h.loads
  counters := k.counters ∘ h.counters
  chain := k.chain ∘ h.chain
  shelf := k.shelf ∘ h.shelf
  checklists := k.checklists ∘ h.checklists
  records := k.records ∘ h.records
  counts := k.counts ∘ h.counts

theorem Keeps.refl (s : State) : Keeps may s s where
  toSound := .refl s
  flags := fun _ _ => by simp
  fifo := fun _ => List.prefix_refl _
  owners := fun _ _ => rfl
  clock := fun _ => rfl
  offset := fun _ => rfl
  mode := fun _ => rfl
  settings := fun _ => rfl

theorem Keeps.trans (h : Keeps may s t) (k : Keeps may t u) : Keeps may s u where
  toSound := h.toSound.trans k.toSound
  flags := fun c n => by rw [← h.flags c n, BitVec.and_assoc, k.flags c n]
  fifo := fun n => (h.fifo n).trans (k.fifo n)
  owners := fun n a => (k.owners n a).trans (h.owners n a)
  clock := fun n => (k.clock n).trans (h.clock n)
  offset := fun n => (k.offset n).trans (h.offset n)
  mode := fun n => (k.mode n).trans (h.mode n)
  settings := fun n => (k.settings n).trans (h.settings n)

/-- A further effect, after a chain that keeps. -/
theorem Keeps.after (k : Keeps may t u) (h : Keeps may s t) : Keeps may s u := h.trans k

theorem Keeps.foldl {α : Type} {f : State → α → State} (h : ∀ s x, Keeps may s (f s x)) (l : List α) (s : State) :
    Keeps may s (l.foldl f s) := by
  induction l generalizing s with
  | nil => exact .refl s
  | cons x l ih => exact (h s x).trans (ih _)

/-! ## From the frames of the shared operations -/

/-- What an effect keeps that writes no setting, no shelf entry and no roster slot, said of the rest. -/
theorem Keeps.ofBase (b : Base s t) (owners : ¬ may .owners → ∀ a, (t.area a).owner = (s.area a).owner)
    (roster : t.roster = s.roster) (shelf : s.shelfSound → t.shelfSound)
    (checklists : s.checklistsSound → t.checklistsSound) (records : s.recordsSound → t.recordsSound)
    (counts : s.countsExact → t.countsExact) : Keeps may s t where
  budget := b.budget
  drops := b.drops
  links := by rw [b.receiver]; exact id
  loads := b.loads
  counters := by simp only [State.countsInRange, b.slots, b.board, b.time, imp_self]
  chain := by rw [b.board]; exact id
  shelf := shelf
  checklists := checklists
  records := records
  counts := counts
  flags := fun c _ => (b.ports c).flags
  fifo := fun _ => b.fifo
  owners := owners
  clock := fun _ => by rw [b.time]
  offset := fun _ => by rw [b.time]
  mode := fun _ => b.mode
  settings := fun _ => by
    simp only [State.settings, b.points, b.areas, b.timing, b.weights, b.decayShift, b.pattern, b.time, b.rate, roster]

/-- R56: the same shelf, for the same SHELVED points. -/
theorem shelfSound_congr (hs : t.shelf = s.shelf) (hp : ∀ p, (t.point p).state = .shelved ↔ (s.point p).state = .shelved)
    (h : s.shelfSound) : t.shelfSound := by
  obtain ⟨room, nodup, points⟩ := h
  unfold State.shelfSound
  rw [hs]
  exact ⟨room, nodup, fun p => (hp p).trans (points p)⟩

/-- What the sequencer, the journal and the presence monitor do inside an event keeps everything. -/
theorem Keeps.ofKept (k : Kept s t) (o : Orderly s t) : Keeps may s t :=
  .ofBase k.toBase (fun _ => k.owner) k.roster (shelfSound_congr k.shelf o.shelved) o.checklists k.recordsSound o.counts

theorem Keeps.ofSequenced (k : Sequenced s t) (o : Orderly s t) : Keeps may s t := .ofKept k.toKept o

/-! ## The writers -/

/-- A port's change keeps every flag set, but where it may clear them. -/
theorem setPort_keeps {c : Console} {p : Port}
    (h : ¬ may (.flags c) → (s.port c).flags &&& p.flags = (s.port c).flags) : Keeps may s (s.setPort c p) :=
  { Keeps.refl s with
    flags := fun d hd => by
      rw [State.port_setPort]
      split
      · next e => subst e; exact h hd
      · simp }

/-- A port's change that leaves its flags. -/
theorem setPort_keeps_of_flags {c : Console} {p : Port} (h : p.flags = (s.port c).flags) : Keeps may s (s.setPort c p) :=
  setPort_keeps fun _ => by rw [h]; simp

theorem setHorn_keeps (c : Console) (h : Horn) : Keeps may s (s.setHorn c h) := { Keeps.refl s with }

theorem setDesk_keeps (c : Console) (d : Desk) : Keeps may s (s.setDesk c d) := { Keeps.refl s with }

theorem setDeskLine_keeps (d : Console) (b : Button) (l : DeskLine) : Keeps may s (s.setDeskLine d b l) :=
  { Keeps.refl s with }

/-- The journal's change keeps its records, its ranges and its rate. -/
theorem setJournal_keeps {j : Journal} (hf : ¬ may .fifo → s.journal.fifo <+: j.fifo)
    (hr : ¬ may .settings → j.rate = s.journal.rate) (hw : s.journal.withinBudget → j.withinBudget)
    (hd : s.journal.countersInRange → j.countersInRange) : Keeps may s { s with journal := j } :=
  { Keeps.refl s with
    fifo := hf, budget := hw, drops := hd
    settings := fun n => by simp only [State.settings, hr n]; rfl }

/-- The journal's change that leaves its FIFO, its drop counters and its rate. -/
theorem setJournal_keeps_of_same {j : Journal} (hf : j.fifo = s.journal.fifo) (hr : j.rate = s.journal.rate)
    (hd : j.dropRoutine = s.journal.dropRoutine) (ha : j.dropAccountable = s.journal.dropAccountable) :
    Keeps may s { s with journal := j } :=
  setJournal_keeps (fun _ => by rw [hf]) (fun _ => hr) (by simp only [Journal.withinBudget, hf, imp_self])
    (by simp only [Journal.countersInRange, hd, ha, imp_self])

theorem setReceiver_keeps {x : Receiver} (h : s.receiver.counts.inRange → x.counts.inRange) :
    Keeps may s { s with receiver := x } :=
  { Keeps.refl s with links := h }

/-- The time base's change keeps its count within the second, its clocks and its divider. -/
theorem setTime_keeps {x : TimeBase} (hm : s.time.milli < 1000 → x.milli < 1000)
    (hc : ¬ may .clock → x.runClock = s.time.runClock) (ho : ¬ may .offset → x.offset = s.time.offset)
    (hd : ¬ may .settings → x.refDivide = s.time.refDivide) : Keeps may s { s with time := x } :=
  { Keeps.refl s with
    counters := fun ⟨h1, h2, h3, h4⟩ => ⟨h1, h2, h3, hm h4⟩
    clock := hc, offset := ho
    settings := fun n => by simp only [State.settings, hd n]; rfl }

theorem setSlots_keeps {x : SlotGenerator} (h : s.slots.slot < 16 → x.slot < 16)
    (hc : s.slots.count < 125 → x.count < 125) : Keeps may s { s with slots := x } :=
  { Keeps.refl s with counters := fun ⟨h1, h2, h3, h4⟩ => ⟨h h1, hc h2, h3, h4⟩ }

theorem setBoard_keeps {x : Board} (hc : s.board.count < 35 → x.count < 35)
    (hs : s.board.chainSound → x.chainSound) : Keeps may s { s with board := x } :=
  { Keeps.refl s with
    counters := fun ⟨h1, h2, h3, h4⟩ => ⟨h1, h2, hc h3, h4⟩
    chain := hs }

/-- R3: a record's change that leaves it live or FREE, over the same areas. -/
theorem setRecord_keeps {r : RecordNo} {h : HoRecord} (free : h.phase = .free ↔ (s.record r).phase = .free)
    (areas : h.areas = (s.record r).areas) (checked : (s.record r).Checked → h.Checked) :
    Keeps may s (s.setRecord r h) :=
  { Keeps.refl s with
    checklists := (setRecord_orderly checked).checklists
    records := fun k a n => by
      have same : (((s.setRecord r h).record n).phase ≠ .free ∧ ((s.setRecord r h).record n).areas.getLsbD a = true) ↔
          ((s.record n).phase ≠ .free ∧ (s.record n).areas.getLsbD a = true) := by
        rw [State.record_setRecord]
        split
        · next e => subst e; rw [areas, Ne, free]
        · exact Iff.rfl
      rw [same]
      exact k a n }

/-- An area's change that leaves its record and its counts. -/
theorem setArea_keeps {a : AreaNo} {e : Area} (record : e.record = (s.area a).record)
    (counts : e.counts = (s.area a).counts) (load : (s.area a).load ≤ 32767 → e.load ≤ 32767)
    (cfg : ¬ may .settings → e.cfg = (s.area a).cfg) (owner : ¬ may .owners → e.owner = (s.area a).owner) :
    Keeps may s (s.setArea a e) := by
  have read {β : Type} (f : Area → β) (h : f e = f (s.area a)) (b : AreaNo) : f ((s.setArea a e).area b) = f (s.area b) := by
    rw [State.area_setArea]
    split
    · next x => subst x; exact h
    · rfl
  exact
    { Keeps.refl s with
      counts := (setArea_orderly counts).counts
      loads := fun k b => by
        rw [State.area_setArea]
        split
        · exact load (k a)
        · exact k b
      records := fun k b n => by
        rw [read (·.record) record]
        exact k b n
      owners := fun n => read (·.owner) (owner n)
      settings := fun n => by
        have h := read (·.cfg) (cfg n)
        simp only [State.settings, h]
        rfl }

/-- A point's change writes the points and the areas' counts alone. -/
theorem State.setPoint_eq (s : State) (p : PointNo) (q : Point) :
    s.setPoint p q = { s with points := s.points.set p q, areas := (s.setPoint p q).areas } := by
  unfold State.setPoint
  dsimp only
  split <;> rfl

/-- R39: a point's change that neither puts it on the shelf nor takes it off. -/
theorem setPoint_keeps {p : PointNo} {q : Point} (shelved : q.state = .shelved ↔ (s.point p).state = .shelved)
    (cfg : ¬ may .settings → q.cfg = (s.point p).cfg) : Keeps may s (s.setPoint p q) := by
  have order := setPoint_orderly shelved
  have area (a : AreaNo) := State.area_setPoint s p q a
  have seen := State.setPoint_eq s p q
  exact
    { budget := by rw [seen]; exact id
      drops := by rw [seen]; exact id
      links := by rw [seen]; exact id
      loads := fun k a => by rw [area]; exact k a
      counters := by rw [seen]; exact id
      chain := by rw [seen]; exact id
      shelf := shelfSound_congr (by rw [seen]) order.shelved
      checklists := order.checklists
      records := fun k a n => by
        have e : (s.setPoint p q).record n = s.record n := by rw [seen]; rfl
        rw [area, e]
        exact k a n
      counts := order.counts
      flags := fun c _ => by rw [seen]; exact BitVec.and_self
      fifo := fun _ => by rw [seen]
      owners := fun _ a => by rw [area]; rfl
      clock := fun _ => by rw [seen]
      offset := fun _ => by rw [seen]
      mode := fun _ => by rw [seen]
      settings := fun n => by
        have points (p' : PointNo) : ((s.setPoint p q).point p').cfg = (s.point p').cfg := by
          rw [State.point_setPoint]
          split
          · next e => subst e; exact cfg n
          · rfl
        have areas (a : AreaNo) : ((s.setPoint p q).area a).cfg = (s.area a).cfg := by rw [area]; rfl
        simp only [State.settings, points, areas]
        rw [seen] }

end Sys2Proof.Machine
end

section
/-! The blocks whose effects keep the invariants only as a whole: areas that change together, the ends of records and the
offer of one, the shelf, the loss of the link, the board's tick, and the restart live state. -/

namespace Sys2Proof.Machine

variable {may : Aspect → Prop} {s t u : State}

/-! ## Areas that change together -/

theorem mem_members {a : AreaNo} {set : AreaSet} : a ∈ members set ↔ inSet a set = true := by
  simp [members, allAreas]

theorem members_nodup (set : AreaSet) : (members set).Nodup := (List.nodup_finRange 24).filter _

/-- What a pass over a list of areas, each changed on its own, leaves of each. -/
theorem area_foldl_setArea (f : Area → Area) (l : List AreaNo) (h : l.Nodup) (s : State) (a : AreaNo) :
    (l.foldl (fun s a => s.setArea a (f (s.area a))) s).area a = if a ∈ l then f (s.area a) else s.area a := by
  induction l generalizing s with
  | nil => rfl
  | cons b l ih =>
    obtain ⟨hb, hl⟩ := List.nodup_cons.mp h
    rw [List.foldl_cons, ih hl, State.area_setArea]
    by_cases e : b = a
    · subst e; simp [hb]
    · simp [e, Ne.symm e]

/-- A pass over areas writes the areas alone. -/
theorem foldl_setArea_eq (f : Area → Area) (l : List AreaNo) (s : State) :
    l.foldl (fun s a => s.setArea a (f (s.area a))) s =
      { s with areas := (l.foldl (fun s a => s.setArea a (f (s.area a))) s).areas } := by
  induction l generalizing s with
  | nil => rfl
  | cons b l ih =>
    rw [List.foldl_cons, ih]
    rfl

/-- R2, R3: the areas of a set each changed in the same way. -/
theorem area_members_change (f : Area → Area) (set : AreaSet) (s : State) (a : AreaNo) :
    ((members set).foldl (fun s a => s.setArea a (f (s.area a))) s).area a =
      if inSet a set then f (s.area a) else s.area a := by
  rw [area_foldl_setArea f _ (members_nodup set)]
  simp only [mem_members]

theorem area_releaseAreas (set : AreaSet) (o : Option Console) (s : State) (a : AreaNo) :
    (releaseAreas set o s).area a =
      if inSet a set then { s.area a with record := none, owner := o.getD (s.area a).owner } else s.area a :=
  area_members_change (fun e => { e with record := none, owner := o.getD e.owner }) set s a

theorem area_giveAreas (set : AreaSet) (o : Console) (s : State) (a : AreaNo) :
    (giveAreas set o s).area a = if inSet a set then { s.area a with owner := o } else s.area a :=
  area_members_change (fun e => { e with owner := o }) set s a

theorem area_nameRecord (set : AreaSet) (r : RecordNo) (s : State) (a : AreaNo) :
    (nameRecord set r s).area a = if inSet a set then { s.area a with record := some r } else s.area a :=
  area_members_change (fun e => { e with record := some r }) set s a

theorem releaseAreas_eq (set : AreaSet) (o : Option Console) (s : State) :
    releaseAreas set o s = { s with areas := (releaseAreas set o s).areas } :=
  foldl_setArea_eq (fun e => { e with record := none, owner := o.getD e.owner }) _ s

theorem giveAreas_eq (set : AreaSet) (o : Console) (s : State) :
    giveAreas set o s = { s with areas := (giveAreas set o s).areas } :=
  foldl_setArea_eq (fun e => { e with owner := o }) _ s

theorem nameRecord_eq (set : AreaSet) (r : RecordNo) (s : State) :
    nameRecord set r s = { s with areas := (nameRecord set r s).areas } :=
  foldl_setArea_eq (fun e => { e with record := some r }) _ s

/-- Areas that keep their counts keep order. -/
theorem foldl_setArea_orderly {f : Area → Area} (h : ∀ e, (f e).counts = e.counts) (l : List AreaNo) (s : State) :
    Orderly s (l.foldl (fun s a => s.setArea a (f (s.area a))) s) :=
  Orderly.foldl (fun s a => setArea_orderly (h (s.area a))) l s

theorem giveAreas_keeps (owners : may .owners) (set : AreaSet) (o : Console) (s : State) :
    Keeps may s (giveAreas set o s) :=
  Keeps.foldl (f := fun s a => s.setArea a { s.area a with owner := o })
    (fun _ _ => setArea_keeps rfl rfl id (fun _ => rfl) fun n => absurd owners n) _ s

/-! ## Ends of records (R102, R104) -/

/-- R102, R104: the end of a record after its areas have been released: all but the record itself is kept. -/
theorem endRecord_after_release (s : State) (r : RecordNo) (o : HoOutcome) (k : HoCause) (c : Console) (op : Nat) :
    ∃ v, Kept (releaseAreas (s.record r).areas (if o.isCommit then (s.record r).inConsole else none) s) v ∧
      Orderly (releaseAreas (s.record r).areas (if o.isCommit then (s.record r).inConsole else none) s) v ∧
      Kept (v.setRecord r ((v.record r).ended o k)) (endRecord s r o k c op).state ∧
      Orderly (v.setRecord r ((v.record r).ended o k)) (endRecord s r o k c op).state := by
  refine ⟨_, ?_, ?_, (setFlagParty_keeps ..).after (setFlagParty_keeps ..),
    (setFlagParty_orderly ..).after (setFlagParty_orderly ..)⟩
  · exact (offer_keeps _ _).after <| (reevaluateAll_kept _ _).after <| (recomputeScopes_kept _).after
      (resolveAckSets_seq ..).toKept
  · exact (offer_orderly _ _).after <| (reevaluateAll_orderly _ _).after <| (recomputeScopes_orderly _).after
      (resolveAckSets_orderly ..)

/-- R83: an effect that keeps the core of a record keeps its phase and its areas. -/
theorem Kept.phase_areas (k : Kept s t) (n : RecordNo) :
    (t.record n).phase = (s.record n).phase ∧ (t.record n).areas = (s.record n).areas :=
  ⟨congrArg (·.phase) (k.records n), congrArg (·.areas) (k.records n)⟩

/-- R104: an ended record is FREE, and so has no checklist. -/
theorem ended_checked (h : HoRecord) (o : HoOutcome) (k : HoCause) : (h.ended o k).Checked := by
  constructor <;> intro e <;> simp [HoRecord.ended] at e

/-- R3, R102: released areas name no record, which is then FREE: the others' areas are named as before. -/
theorem released_recordsSound {r : RecordNo} {o : Option Console} {v : State} {h : HoRecord}
    (live : (s.record r).phase ≠ .free) (sound : s.recordsSound)
    (k : Kept (releaseAreas (s.record r).areas o s) v) (free : h.phase = .free) : (v.setRecord r h).recordsSound := by
  intro a n
  have others (n : RecordNo) : (v.record n).phase = (s.record n).phase ∧ (v.record n).areas = (s.record n).areas := by
    have e : (releaseAreas (s.record r).areas o s).record n = s.record n := by rw [releaseAreas_eq]; rfl
    rw [← e]
    exact k.phase_areas n
  have named := k.record a
  rw [area_releaseAreas] at named
  have holds : (s.area a).record = some r ↔ (s.record r).areas.getLsbD a = true := by
    rw [sound a r]; exact and_iff_right live
  rw [State.area_setRecord, named, State.record_setRecord]
  obtain ⟨phase, areas⟩ := others n
  by_cases inside : inSet a (s.record r).areas = true
  · have mine := holds.mpr inside
    rw [if_pos inside]
    split
    · simp [free]
    · next e =>
      rw [phase, areas, ← sound a n, mine]
      simp [e]
  · rw [if_neg inside]
    have notMine : (s.area a).record ≠ some r := fun x => inside (holds.mp x)
    split
    · next e => subst e; simp [free, notMine]
    · rw [phase, areas]; exact sound a n

/-- R102, R104: the end of a live record keeps every invariant, and but at a commit the owners. -/
theorem endRecord_keeps {r : RecordNo} {o : HoOutcome} (live : (s.record r).phase ≠ .free)
    (commit : o.isCommit = true → may .owners) (k : HoCause) (c : Console) (op : Nat) :
    Keeps may s (endRecord s r o k c op).state := by
  obtain ⟨v, before, before_order, after, after_order⟩ := endRecord_after_release s r o k c op
  have released : Orderly s (releaseAreas (s.record r).areas (if o.isCommit then (s.record r).inConsole else none) s) :=
    foldl_setArea_orderly (f := fun e => { e with
      record := none, owner := (if o.isCommit then (s.record r).inConsole else none).getD e.owner })
      (fun _ => rfl) _ s
  have ended : Orderly v (v.setRecord r ((v.record r).ended o k)) := setRecord_orderly fun _ => ended_checked ..
  have order := after_order.after <| ended.after <| before_order.after released
  have write := releaseAreas_eq (s.record r).areas (if o.isCommit then (s.record r).inConsole else none) s
  refine .ofBase (endRecord_base ..) (fun n a => ?_) ?_ (shelfSound_congr ?_ order.shelved) order.checklists
    (fun sound => after.recordsSound (released_recordsSound live sound before rfl)) order.counts
  · rw [after.owner, State.area_setRecord, before.owner, area_releaseAreas]
    have keep : o.isCommit = false := Bool.eq_false_iff.mpr fun e => n (commit e)
    simp only [keep, Bool.false_eq_true, if_false, Option.getD_none]
    split <;> rfl
  · rw [after.roster, State.setRecord_roster, before.roster, write]
  · rw [after.shelf, State.setRecord_shelf, before.shelf, write]

/-! ## The offer of a record (R88) -/

/-- R3, R88: a FREE record offered over areas that name none, each of which then names it. -/
theorem offerRecordOver_keeps {r : RecordNo} {h : HoRecord} (free : (s.record r).phase = .free)
    (phase : h.phase ≠ .free) (unnamed : ∀ a : AreaNo, h.areas.getLsbD a = true → (s.area a).record = none) (checked : h.Checked) :
    Keeps may s (nameRecord h.areas r (s.setRecord r h)) := by
  have write := nameRecord_eq h.areas r (s.setRecord r h)
  have area (a : AreaNo) := area_nameRecord h.areas r (s.setRecord r h) a
  have order : Orderly s (nameRecord h.areas r (s.setRecord r h)) :=
    (foldl_setArea_orderly (f := fun e => { e with record := some r }) (fun _ => rfl) _ _).after
      (setRecord_orderly fun _ => checked)
  refine .ofBase ((setRecord_base s r h).trans (nameRecord_base ..)) (fun _ a => ?_) ?_
    (shelfSound_congr ?_ order.shelved) order.checklists (fun sound a n => ?_) order.counts
  · rw [area]
    split <;> rfl
  · rw [write]; rfl
  · rw [write]; rfl
  · have record : (nameRecord h.areas r (s.setRecord r h)).record n = (s.setRecord r h).record n := by rw [write]; rfl
    rw [area, record, State.record_setRecord]
    have notMine : (s.area a).record ≠ some r := fun x => ((sound a r).mp x).1 free
    by_cases inside : inSet a h.areas = true
    · rw [if_pos inside]
      split
      · next e => subst e; exact iff_of_true rfl ⟨phase, inside⟩
      · next e =>
        rw [← sound a n, unnamed a inside]
        simp [e]
    · rw [if_neg inside]
      split
      · next e => subst e; simp only [State.area_setRecord, notMine, false_iff, not_and]; exact fun _ => inside
      · exact sound a n

/-! ## The shelf (R56 to R63) -/

/-- R56: placing an entry adds it and keeps the others. -/
theorem placeEntry_perm (s : State) (e : ShelfEntry) (l : List ShelfEntry) : (placeEntry s e l).Perm (e :: l) := by
  induction l with
  | nil => exact .refl _
  | cons x l ih =>
    unfold placeEntry
    split
    · exact (ih.cons x).trans (.swap e x l)
    · exact .refl _

theorem onShelf_iff (s : State) (p : PointNo) : onShelf s p = true ↔ ∃ e ∈ s.shelf, e.point = p := by
  simp [onShelf]

theorem mem_withoutPoint {p : PointNo} {l : List ShelfEntry} {e : ShelfEntry} :
    e ∈ withoutPoint p l ↔ e ∈ l ∧ e.point ≠ p := by
  simp [withoutPoint]

/-- R56: the shelf without a point's entry has no more entries, and one fewer where the point had one. -/
theorem withoutPoint_length (p : PointNo) (l : List ShelfEntry) :
    (withoutPoint p l).length + (if l.any (·.point == p) then 1 else 0) ≤ l.length := by
  split
  · next h =>
    obtain ⟨e, he, hp⟩ := List.any_eq_true.mp h
    have : (withoutPoint p l).length < l.length := List.length_filter_lt_length_iff_exists.mpr ⟨e, he, by simpa using hp⟩
    omega
  · exact List.length_filter_le ..

theorem withoutPoint_nodup {l : List ShelfEntry} (h : (l.map (·.point)).Nodup) (p : PointNo) :
    ((withoutPoint p l).map (·.point)).Nodup :=
  h.sublist (List.filter_sublist.map _)

/-- R56, R59: a shelf with an entry placed for a point, which is then SHELVED, is sound where there was room. -/
theorem placed_shelfSound {p : PointNo} {e : ShelfEntry} (v : State) (mine : e.point = p)
    (room : onShelf s p = true ∨ s.shelf.length < 32) (hl : t.shelf = placeEntry v e (withoutPoint p s.shelf))
    (hp : ∀ p', (t.point p').state = .shelved ↔ p' = p ∨ (s.point p').state = .shelved) (sound : s.shelfSound) :
    t.shelfSound := by
  obtain ⟨full, nodup, points⟩ := sound
  have perm := placeEntry_perm v e (withoutPoint p s.shelf)
  refine ⟨?_, ?_, fun p' => ?_⟩
  · have := withoutPoint_length p s.shelf
    rw [hl, perm.length_eq, List.length_cons]
    obtain on | less := room
    · unfold onShelf at on
      rw [on] at this
      simp only [if_true] at this
      omega
    · split at this <;> omega
  · rw [hl, (perm.map _).nodup_iff, List.map_cons, List.nodup_cons]
    refine ⟨fun h => ?_, withoutPoint_nodup nodup p⟩
    obtain ⟨x, hx, e⟩ := List.mem_map.mp h
    exact (mem_withoutPoint.mp hx).2 (e.trans mine)
  · rw [hp, points, hl]
    simp only [perm.mem_iff, List.mem_cons, mem_withoutPoint]
    constructor
    · rintro (rfl | ⟨x, hx, rfl⟩)
      · exact ⟨e, .inl rfl, mine⟩
      · by_cases h : x.point = p
        · exact ⟨e, .inl rfl, mine.trans h.symm⟩
        · exact ⟨x, .inr ⟨hx, h⟩, rfl⟩
    · rintro ⟨x, rfl | ⟨hx, -⟩, rfl⟩
      · exact .inl mine
      · exact .inr ⟨x, hx, rfl⟩

theorem setPoint_checklists {p : PointNo} {q : Point} (k : s.checklistsSound) : (s.setPoint p q).checklistsSound := by
  intro n
  have e : (s.setPoint p q).record n = s.record n := by rw [State.setPoint_eq]; rfl
  rw [e]
  exact k n

/-- R59: SHELVE of a point, whose entry is placed. -/
theorem placeOnShelf_keeps {p : PointNo} {e : ShelfEntry} (mine : e.point = p)
    (room : onShelf s p = true ∨ s.shelf.length < 32) :
    Keeps may s (let s1 := { s with shelf := placeEntry s e (withoutPoint p s.shelf) }
      if onShelf s p then s1 else unsilence p (s1.setPoint p (s1.point p).shelve)) := by
  dsimp only
  by_cases on : onShelf s p = true
  · rw [if_pos on]
    have mineShelved (sound : s.shelfSound) : (s.point p).state = .shelved :=
      (sound.2.2 p).mpr ((onShelf_iff s p).mp on)
    refine { Keeps.refl s with
      shelf := fun sound => placed_shelfSound s mine room rfl (fun p' => ?_) sound }
    exact ⟨.inr, fun h => h.elim (fun e => e ▸ mineShelved sound) id⟩
  · rw [if_neg on]
    let s1 : State := { s with shelf := placeEntry s e (withoutPoint p s.shelf) }
    have step : Sequenced s1 (unsilence p (s1.setPoint p (s1.point p).shelve)) :=
      (unsilence_seq ..).after (setPoint_seq s1 p _ rfl)
    have b : Base s s1 := { Base.refl s with }
    refine .ofBase (b.trans step.toBase) (fun _ => step.owner) step.roster (fun sound => ?_)
      (fun h => (unsilence_orderly p _).checklists (setPoint_checklists (s := s1) h)) (fun h => ?_) (fun h => ?_)
    · refine placed_shelfSound s mine room step.shelf (fun p' => ?_) sound
      show ((s1.setPoint p (s1.point p).shelve).point p').state = .shelved ↔ _
      rw [State.point_setPoint]
      split
      · next e => subst e; exact iff_of_true rfl (.inl rfl)
      · next e => exact ⟨.inr, fun h => h.elim (fun x => absurd x.symm e) id⟩
    · exact step.recordsSound (s := s1) h
    · exact ((unsilence_orderly p _).counts (setPoint_countsExact (s := s1) h p _))

/-- What the return of a point from the shelf keeps: the point, and no other, is SHELVED no more. -/
structure Leaves (p : PointNo) (s t : State) : Prop where
  shelved : ∀ p', (t.point p').state = .shelved ↔ p' ≠ p ∧ (s.point p').state = .shelved
  checklists : s.checklistsSound → t.checklistsSound
  counts : s.countsExact → t.countsExact

theorem Leaves.trans {p : PointNo} (h : Leaves p s t) (k : Orderly t u) : Leaves p s u :=
  ⟨fun p' => (k.shelved p').trans (h.shelved p'), k.checklists ∘ h.checklists, k.counts ∘ h.counts⟩

theorem setPoint_leaves {p : PointNo} {q : Point} (h : q.state ≠ .shelved) : Leaves p s (s.setPoint p q) where
  shelved p' := by
    rw [State.point_setPoint]
    split
    · next e => subst e; exact iff_of_false h fun x => x.1 rfl
    · next e => exact (and_iff_right (Ne.symm e)).symm
  checklists := setPoint_checklists
  counts k := setPoint_countsExact k p q

theorem startRaise_leaves (s : State) (p : PointNo) : Leaves p s (startRaise s p) :=
  (setPoint_leaves (q := (s.point p).startEpisode s.serialNext s.journalClock) (by simp [Point.startEpisode])).trans <|
    (unsilence_orderly p _).after (.ofApart rfl rfl rfl)

theorem raisePoint_leaves {off : Offer} (ho : off.Orders) (s : State) (p : PointNo) : Leaves p s (raisePoint off s p) :=
  (startRaise_leaves s p).trans (raisePoint_after_start ho s p)

theorem handled_raise_leaves (s : State) (p : PointNo) :
    Leaves p s (handled p (fun off s => raisePoint off s p) s) := by
  unfold handled
  split
  · exact (raisePoint_leaves offerRecord_orderly s p).trans (settle510_orderly _)
  · exact raisePoint_leaves offer_orderly s p

/-- R63, R35: a point that returns from the shelf is RAISED or NORMAL. -/
theorem shelfReturn_leaves (s : State) (p : PointNo) : Leaves p s (shelfReturn s p) := by
  unfold shelfReturn
  dsimp only
  refine Leaves.trans ?_ (setFlag_orderly ..)
  split
  · exact handled_raise_leaves s p
  · exact (setPoint_leaves (by simp)).trans (toldNormal_orderly ..)

/-- R61, R62: an entry leaves the shelf, its record is offered, and its point returns. -/
theorem leaveShelf_keeps (s : State) (p : PointNo) (r : JournalRecord) :
    Keeps may s (shelfReturn (offer { s with shelf := withoutPoint p s.shelf } r) p) := by
  let s1 : State := { s with shelf := withoutPoint p s.shelf }
  have b : Base s s1 := { Base.refl s with }
  have seq : Sequenced s1 (shelfReturn (offer s1 r) p) := (shelfReturn_seq ..).after (offer_seq s1 r)
  have order : Orderly s1 (offer s1 r) := offer_orderly s1 r
  have leaves := shelfReturn_leaves (offer s1 r) p
  refine .ofBase (b.trans seq.toBase) (fun _ => seq.owner) seq.roster (fun sound => ?_)
    (fun h => leaves.checklists (order.checklists h)) (fun h => seq.toKept.recordsSound (s := s1) h)
    (fun h => leaves.counts (order.counts h))
  obtain ⟨full, nodup, points⟩ := sound
  unfold State.shelfSound
  rw [seq.shelf]
  refine ⟨(List.length_filter_le ..).trans full, withoutPoint_nodup nodup p, fun p' => ?_⟩
  rw [leaves.shelved, order.shelved]
  show p' ≠ p ∧ (s.point p').state = .shelved ↔ ∃ e ∈ withoutPoint p s.shelf, e.point = p'
  simp only [points, mem_withoutPoint]
  constructor
  · rintro ⟨hp, x, hx, rfl⟩
    exact ⟨x, ⟨hx, hp⟩, rfl⟩
  · rintro ⟨x, ⟨hx, hp⟩, rfl⟩
    exact ⟨hp, x, hx, rfl⟩

end Sys2Proof.Machine
end

section
/-! The loss of the link (R147), the board's tick (R132) and the restart live state (R178): three effects over whole
tables, and what each keeps. -/

namespace Sys2Proof.Machine

variable {may : Aspect → Prop} {s t u : State}

/-! ## The loss of the link (R147) -/

/-- The number of points that a test of their number and entry finds. -/
def State.countingAt (s : State) (f : PointNo × Point → Bool) : Nat := (entries s.points).countP f

theorem entries_points (s : State) : entries s.points = (List.finRange 512).map fun p => (p, s.point p) := by
  apply List.ext_getElem <;> simp [entries, State.point]

theorem points_toList (s : State) : s.points.toList = (List.finRange 512).map s.point := by
  apply List.ext_getElem <;> simp [State.point]

theorem State.counting_eq (s : State) (f : Point → Bool) : s.counting f = (List.finRange 512).countP fun p => f (s.point p) := by
  rw [State.counting, points_toList, List.countP_map]
  rfl

theorem State.countingAt_eq (s : State) (f : PointNo × Point → Bool) :
    s.countingAt f = (List.finRange 512).countP fun p => f (p, s.point p) := by
  rw [State.countingAt, entries_points, List.countP_map]
  rfl

/-- Two tests that never both hold find as many as either. -/
theorem countP_or_of_disjoint {α : Type} (f g : α → Bool) (l : List α) (h : ∀ x, f x = true → g x = false) :
    l.countP (fun x => f x || g x) = l.countP f + l.countP g := by
  induction l with
  | nil => rfl
  | cons x l ih =>
    simp only [List.countP_cons, ih]
    have := h x
    cases hf : f x <;> cases hg : g x <;> simp_all <;> omega

theorem point_staleAll (s : State) (p : PointNo) :
    (staleAll s).point p = if staleTarget (p, s.point p) then { s.point p with quality := .stale } else s.point p := by
  have table : (entries s.points)[p.val]'(by simp [entries]) = (p, s.point p) := by simp [entries, State.point]
  show (staleAll s).points[p] = _
  simp only [staleAll, Fin.getElem_fin, Vector.getElem_mk, List.getElem_toArray, List.getElem_map, table]

theorem area_staleAll (s : State) (a : AreaNo) :
    (staleAll s).area a = { s.area a with notGood := (s.area a).notGood + lostGood s a } := by
  simp [staleAll, State.area, entries]

/-- R147 step 3: the not-GOOD counts rise by the points that were GOOD. -/
theorem staleAll_countsExact (h : s.countsExact) : (staleAll s).countsExact := by
  rw [State.countsExact_iff] at h ⊢
  intro a
  obtain ⟨h1, h2, h3, h4, hst, hsh, hng⟩ := h a
  have same (f : Point → Bool) (hf : ∀ q : Point, f { q with quality := .stale } = f q) :
      (staleAll s).counting f = s.counting f :=
    State.counting_congr fun p => by rw [point_staleAll]; split <;> simp [hf]
  rw [← same (countsUnack · a .p1) fun _ => rfl] at h1
  rw [← same (countsUnack · a .p2) fun _ => rfl] at h2
  rw [← same (countsUnack · a .p3) fun _ => rfl] at h3
  rw [← same (countsUnack · a .p4) fun _ => rfl] at h4
  rw [← same (countsStanding · a) fun _ => rfl] at hst
  rw [← same (countsShelved · a) fun _ => rfl] at hsh
  refine
    { p1 := by rw [area_staleAll]; exact h1
      p2 := by rw [area_staleAll]; exact h2
      p3 := by rw [area_staleAll]; exact h3
      p4 := by rw [area_staleAll]; exact h4
      standing := by rw [area_staleAll]; exact hst
      shelved := by rw [area_staleAll]; exact hsh
      notGood := ?_ }
  rw [area_staleAll]
  have lost : lostGood s a = s.countingAt fun x => staleTarget x && x.2.quality == .good && x.2.area == a := by
    rw [lostGood, ← List.countP_eq_length_filter]; rfl
  dsimp only
  rw [hng, lost, State.counting_eq, State.countingAt_eq, State.counting_eq, ← countP_or_of_disjoint]
  · refine List.countP_congr fun p _ => ?_
    rw [point_staleAll]
    by_cases target : staleTarget (p, s.point p) = true
    · have configured : (s.point p).configured = true := by
        simp only [staleTarget, Bool.and_eq_true] at target
        exact target.2
      simp only [target, if_true, countsNotGood, configured]
      cases (s.point p).quality <;> simp
    · simp [target]
  · intro p
    simp only [countsNotGood]
    cases (s.point p).quality <;> simp

/-- R147: the points and the areas alone are written. -/
theorem staleAll_eq (s : State) :
    staleAll s = { s with points := (staleAll s).points, areas := (staleAll s).areas } := rfl

/-- An effect on the points and the areas that keeps their configuration and the range of the loads. -/
theorem tables_base (v : Vector Point 512) (w : Vector Area 24) (hp : ∀ p : PointNo, (v[p]).cfg = (s.point p).cfg)
    (ha : ∀ a : AreaNo, (w[a]).cfg = (s.area a).cfg) (hl : s.loadsInRange → ∀ a : AreaNo, (w[a]).load ≤ 32767) :
    Base s { s with points := v, areas := w } :=
  { Base.refl s with points := hp, areas := ha, loads := hl }

theorem staleAll_keeps (s : State) : Keeps may s (staleAll s) := by
  have shelved (p : PointNo) : ((staleAll s).point p).state = (s.point p).state := by
    rw [point_staleAll]; split <;> rfl
  have cfg (p : PointNo) : ((staleAll s).point p).cfg = (s.point p).cfg := by
    rw [point_staleAll]; split <;> rfl
  have area {β : Type} (f : Area → β) (h : ∀ e n, f { e with notGood := n } = f e) (a : AreaNo) :
      f ((staleAll s).area a) = f (s.area a) := by rw [area_staleAll, h]
  have record (n : RecordNo) : (staleAll s).record n = s.record n := by
    simp only [State.record]
    rw [staleAll_eq]
  have loads (k : s.loadsInRange) (a : AreaNo) : ((staleAll s).area a).load ≤ 32767 := by
    rw [area (·.load) fun _ _ => rfl]
    exact k a
  refine .ofBase (tables_base _ _ cfg (area (·.cfg) fun _ _ => rfl) loads) (fun _ => area (·.owner) fun _ _ => rfl)
    (by rw [staleAll_eq]) (shelfSound_congr (by rw [staleAll_eq]) fun p => by rw [shelved])
    (fun k n => by rw [record]; exact k n) (fun k a n => ?_) staleAll_countsExact
  rw [area (·.record) fun _ _ => rfl, record]
  exact k a n

/-! ## The board's tick (R132) -/

/-- R132: the number of line periods of the frame whose words the chain has taken. -/
def Board.periods (b : Board) : Nat := if b.frameDue then 6 else min 6 (b.count / 5)

/-- R132: a period's words join the chain: a line of tiles in the order of its tiles, before what it held. -/
theorem shiftInto_line {b : Board} (sound : b.chainSound) (scanning : b.scanner ≠ .stopped) {k : Nat} (hk : k < 6)
    (passed : b.periods = k) (near tile : Fin 32) (_ : near.val < 8 * (k + 1 - 2))
    (ht : tile.val = 8 * (6 - (k + 1)) + near.val) : (shiftInto b.chain (lineWords b.words k))[near] = b.words[tile] := by
  have two : 2 ≤ k := by omega
  have len : (lineWords b.words k).length = 8 := by
    rw [lineWords, if_neg (by omega), if_pos hk]
    simp
    omega
  rw [shiftInto_get]
  split
  · next h =>
    have line : (lineWords b.words k).reverse = (b.words.toList.drop (8 * (5 - k))).take 8 := by
      rw [lineWords, if_neg (by omega), if_pos hk, List.reverse_reverse]
    simp only [line, List.getElem_take, List.getElem_drop, Vector.getElem_toList]
    simp only [ht, Fin.getElem_fin]
    congr 1
    omega
  · next h =>
    rw [len] at h ⊢
    have inChain : near.val - 8 < 32 := by omega
    have before := sound scanning ⟨near.val - 8, inChain⟩ tile
    unfold Board.periods at passed
    rw [passed] at before
    rw [← before (by simp; omega) (by simp; omega)]
    simp [List.getD_eq_getElem?_getD, inChain]

theorem tick_scanner (b : Board) : b.tick.scanner = b.scanner := by
  unfold Board.tick
  split
  · rfl
  · dsimp only
    split <;> split <;> rfl

/-- R132: the tick of a board that is not at a period's end leaves the chain. -/
theorem tick_chain (b : Board) : b.tick.chain =
    if b.scanner ≠ .stopped ∧ b.count % 5 = 4 then shiftInto b.chain (lineWords b.words (b.count / 5)) else b.chain := by
  unfold Board.tick
  by_cases h : b.scanner = .stopped
  · simp [h]
  · by_cases ends : b.count % 5 = 4 <;> by_cases last : b.count = 34 <;> simp [h, ends, last]

theorem shiftInto_nil (chain : Vector LampWord 32) : shiftInto chain [] = chain := by
  apply Vector.ext
  intro i hi
  have := shiftInto_get chain [] ⟨i, hi⟩
  simpa [List.getD_eq_getElem?_getD, hi] using this

/-- R132: what the chain holds stays right through a tick that finds no frame's end due. -/
theorem tick_chainSound {b : Board} (due : b.frameDue = false) (sound : b.chainSound) : b.tick.chainSound := by
  intro scanning
  rw [tick_scanner] at scanning
  intro periods near tile hn ht
  rw [(tick_words_lamps b).1, tick_chain]
  have passed : b.periods = min 6 (b.count / 5) := by simp [Board.periods, due]
  have periods_eq : periods = min 6 ((b.count + 1) / 5) := by
    show (if b.tick.frameDue then 6 else min 6 (b.tick.count / 5)) = _
    unfold Board.tick
    rw [if_neg scanning]
    dsimp only
    split <;> split <;> simp [due] <;> omega
  by_cases ends : b.count % 5 = 4
  · rw [if_pos ⟨scanning, ends⟩]
    by_cases line : b.count / 5 < 6
    · refine shiftInto_line sound scanning line (by omega) near tile ?_ ?_
      · have : periods = b.count / 5 + 1 := by omega
        rwa [this] at hn
      · have : periods = b.count / 5 + 1 := by omega
        rwa [this] at ht
    · have none : lineWords b.words (b.count / 5) = [] := by
        rw [lineWords, if_neg (by omega), if_neg line]
      rw [none, shiftInto_nil]
      refine sound scanning near tile ?_ ?_ <;> simp only [due, Bool.false_eq_true, if_false] <;> omega
  · rw [if_neg fun h => ends h.2]
    refine sound scanning near tile ?_ ?_ <;> simp only [due, Bool.false_eq_true, if_false] <;> omega

theorem tick_count {b : Board} (h : b.count < 35) : b.tick.count < 35 := by
  unfold Board.tick
  split
  · exact h
  · dsimp only
    split <;> split <;> simp <;> omega

/-! ## The restart live state (R178) -/

theorem point_restartLive (c : Console) (s : State) (p : PointNo) : (restartLive c s).point p = (s.point p).live :=
  mapTable_getElem ..

theorem area_restartLive (c : Console) (s : State) (a : AreaNo) :
    (restartLive c s).area a = (s.area a).live s.time.runClock (configuredIn s a) := by
  simp [restartLive, recomputeScopes, State.area, entries]

theorem record_restartLive (c : Console) (s : State) (n : RecordNo) : (restartLive c s).record n = .reset := by
  simp [restartLive, recomputeScopes, State.record]

theorem port_restartLive (c d : Console) (s : State) : (restartLive c s).port d = restartPort c d (s.port d) :=
  table4_getElem ..

theorem live_cfg (q : Point) : q.live.cfg = q.cfg := rfl

/-- R7, R178: every configured point is then STALE and NORMAL. -/
theorem restartLive_countsExact (c : Console) (s : State) : (restartLive c s).countsExact := by
  rw [State.countsExact_iff]
  intro a
  have nothing (f : Point → Bool) (hf : ∀ q : Point, f q.live = false) : 0 = (restartLive c s).counting f := by
    rw [State.counting_eq]
    simp [point_restartLive, hf]
  constructor <;> rw [area_restartLive] <;> dsimp only [Area.live]
  case notGood =>
    rw [configuredIn, areaPoints, ← List.countP_eq_length_filter, State.counting_eq, points_toList, List.countP_map]
    refine List.countP_congr fun p _ => ?_
    simp [point_restartLive, countsNotGood, Point.live]
  all_goals
    refine nothing _ fun q => ?_
    simp [countsUnack, countsStanding, countsShelved, Point.live, Point.unacknowledged]

theorem reset_checked : HoRecord.reset.Checked := by
  constructor <;> intro h <;> simp [HoRecord.reset] at h

theorem restartLive_keeps (c : Console) (s : State) : Keeps may s (restartLive c s) where
  budget := id
  drops := id
  links := fun _ => ⟨Nat.zero_le _, Nat.zero_le _, Nat.zero_le _, Nat.zero_le _⟩
  loads := fun _ a => by rw [area_restartLive]; exact Nat.zero_le _
  counters := id
  chain := id
  shelf := fun _ => ⟨Nat.zero_le _, List.nodup_nil, fun p => by
    rw [point_restartLive]
    exact iff_of_false (by simp [Point.live]) (by simp [restartLive, recomputeScopes])⟩
  checklists := fun _ n => by rw [record_restartLive]; exact reset_checked
  records := fun _ a n => by
    rw [area_restartLive, record_restartLive]
    exact iff_of_false (by simp [Area.live]) (by simp [HoRecord.reset])
  counts := fun _ => restartLive_countsExact c s
  flags := fun d _ => by
    rw [port_restartLive]
    unfold restartPort
    split <;> exact BitVec.and_self
  fifo := fun _ => List.prefix_refl _
  owners := fun _ a => by rw [area_restartLive]; rfl
  clock := fun _ => rfl
  offset := fun _ => rfl
  mode := fun _ => rfl
  settings := fun _ => by
    have roster (k : SlotNo) : ((restartLive c s).roster[k]).map Operator.signedOff = (s.roster[k]).map Operator.signedOff := by
      have e : (restartLive c s).roster[k] = (s.roster[k]).map Operator.signedOff := mapTable_getElem ..
      rw [e, Option.map_map]
      rfl
    have points (p : PointNo) : ((restartLive c s).point p).cfg = (s.point p).cfg := by rw [point_restartLive]; rfl
    have areas (a : AreaNo) : ((restartLive c s).area a).cfg = (s.area a).cfg := by rw [area_restartLive]; rfl
    simp only [State.settings, roster, points, areas]
    rfl

end Sys2Proof.Machine
end

section
/-! Every effect of every command keeps the invariants and all but what its command is named for: one lemma for each
operation, in the order of the model. -/

namespace Sys2Proof.Machine

variable {may : Aspect → Prop} {s t u : State}

/-! ## The shared operations -/

theorem keeps_setFlag (f : EventFlag) (s : State) (c : Console) : Keeps may s (setFlag f s c) :=
  .ofKept (setFlag_keeps ..) (setFlag_orderly ..)

theorem keeps_setFlagAt (f : EventFlag) (l : List Console) (s : State) : Keeps may s (setFlagAt f l s) :=
  .ofKept (setFlagAt_keeps ..) (setFlagAt_orderly ..)

theorem keeps_setFlagInScope (f : EventFlag) (s : State) (a : AreaNo) : Keeps may s (setFlagInScope f s a) :=
  keeps_setFlagAt f _ s

theorem keeps_setFlagParty (f : EventFlag) (c : Option Console) (s : State) : Keeps may s (setFlagParty f c s) :=
  .ofKept (setFlagParty_keeps ..) (setFlagParty_orderly ..)

theorem keeps_journalEvent (s : State) : Keeps may s (journalEvent s) := keeps_setFlagAt .journal allFour s

theorem keeps_offer (s : State) (r : JournalRecord) : Keeps may s (offer s r) :=
  .ofKept (offer_keeps ..) (offer_orderly ..)

theorem keeps_settle510 (s : State) : Keeps may s (settle510 s) := .ofSequenced (settle510_seq s) (settle510_orderly s)

theorem keeps_systemPoint (s : State) (p : PointNo) (i : Input) : Keeps may s (systemPoint s p i) :=
  .ofKept (systemPoint_keeps ..) (systemPoint_orderly ..)

theorem keeps_pointInput (s : State) (p : PointNo) (i : Input) (ql : Quality) : Keeps may s (pointInput offer s p i ql) :=
  .ofSequenced (pointInput_seq offer_seq ..) (pointInput_orderly offer_orderly ..)

theorem keeps_recomputeScopes (s : State) : Keeps may s (recomputeScopes s) :=
  .ofKept (recomputeScopes_kept s) (recomputeScopes_orderly s)

theorem keeps_reevaluateAll (s : State) (l : List AreaNo) : Keeps may s (reevaluateAll s l) :=
  .ofKept (reevaluateAll_kept ..) (reevaluateAll_orderly ..)

theorem keeps_checklistEvents (before now : HoRecord) (s : State) : Keeps may s (checklistEvents before now s) :=
  .ofSequenced (checklistEvents_seq ..) (checklistEvents_orderly ..)

theorem keeps_judgeHold (s : State) (a : AreaNo) : Keeps may s (judgeHold s a) :=
  .ofSequenced (judgeHold_seq ..) (judgeHold_orderly ..)

theorem keeps_ackPoints (s : State) (c : Console) (f : AreaNo → Bool) : Keeps may s (ackPoints s c f).state :=
  .ofSequenced (ackPoints_seq ..) (ackPoints_orderly ..)

/-- R157: a change of the loss condition sets a flag and leaves an event waiting. -/
theorem keeps_lossChange (i : Input) (s : State) : Keeps may s (lossChange i s) := by
  rw [lossChange_eq]
  refine (keeps_setFlagAt ..).after (setJournal_keeps_of_same ?_ ?_ ?_ ?_)
  · exact changed_fifo ..
  · exact (changed_steady ..).rate
  · unfold Journal.changed; split <;> rfl
  · unfold Journal.changed; split <;> rfl

/-! ## Events and requests -/

/-- Driving the outputs keeps the state that an event leaves. -/
theorem keeps_settle (s : State) : Keeps may s (settle s) :=
  { Keeps.refl s with
    flags := fun c _ => by rw [settle_port]; exact BitVec.and_self }

theorem keeps_event (h : Keeps may s u) (e : event u = .next t) : Keeps may s t :=
  Host.Outcome.next.inj e ▸ h.trans (keeps_settle u)

theorem keeps_heard (s : State) (c : Console) : Keeps may s (s.heard c) := setDesk_keeps ..

theorem keeps_returnConsole (s : State) (c : Console) (since : Word32) : Keeps may s (returnConsole s c since) := by
  unfold returnConsole
  dsimp only
  have k : Keeps may s (setFlagAt .presence allFour (offer (s.heard c) (journalRecord
      (s.heard c) .present .accountable c c 0#6 (s.operatorNumber c) since))) :=
    (keeps_setFlagAt ..).after <| (keeps_offer ..).after (keeps_heard s c)
  split
  · exact (keeps_reevaluateAll ..).after k
  · exact (keeps_systemPoint ..).after <| (keeps_reevaluateAll ..).after k

theorem keeps_frameArrives (c : Console) (s : State) : Keeps may s (frameArrives c s) := by
  unfold frameArrives
  split
  · exact keeps_heard s c
  · exact keeps_returnConsole ..

/-- R167: a request answers at its port after its effect. -/
theorem keeps_answer (c : Console) (tag : Byte) (x : State × Reply) : Keeps may x.1 (answer c tag x) :=
  setPort_keeps_of_flags rfl

theorem keeps_request {c : Console} {r : Request} {body : State → State × Reply}
    (h : Keeps may (frameArrives c s) (body (frameArrives c s)).1) (e : request c r body s = .next t) : Keeps may s t :=
  keeps_event ((keeps_answer ..).after (h.after (keeps_frameArrives c s))) e

/-- A refused request keeps the state; a taken one has passed its checks. -/
theorem keeps_decided {l : List Check} {k : State × Reply} (h : firstFailure l = none → Keeps may s k.1) :
    Keeps may s (decided s l k).1 := by
  unfold decided
  split
  · exact .refl s
  · next e => exact h e

/-- A request that only reads. -/
theorem keeps_read {l : List Check} {k : Reply} : Keeps may s (decided s l (s, k)).1 := keeps_decided fun _ => .refl s

theorem passes {l : List Check} {b : Bool} {st : Status} (h : firstFailure l = none) (m : fails b st ∈ l) : b = false :=
  firstFailure_none.mp h _ m

/-! ## Sign-on and sign-off -/

/-- R11: a roster slot's change that leaves its operator but for the console. -/
theorem setRoster_keeps {k : SlotNo} {x : Option Operator}
    (h : x.map Operator.signedOff = (s.roster[k]).map Operator.signedOff) :
    Keeps may s { s with roster := s.roster.set k x } :=
  { Keeps.refl s with
    settings := fun _ => by
      have same (i : SlotNo) : ((s.roster.set k x)[i]).map Operator.signedOff = (s.roster[i]).map Operator.signedOff := by
        simp only [Fin.getElem_fin, Vector.getElem_set]
        split
        · next e => rw [h]; simp only [← e, Fin.getElem_fin]
        · rfl
      simp only [State.settings, same]
      rfl }

theorem map_signedOff (o : Option Operator) (c : Option Console) :
    (o.map fun op => { op with console := c }).map Operator.signedOff = o.map Operator.signedOff := by
  cases o <;> rfl

theorem keeps_signOnSlot (s : State) (c : Console) (k : SlotNo) : Keeps may s (signOnSlot s c k) :=
  (setRoster_keeps (map_signedOff _ _)).after (setDesk_keeps ..)

theorem keeps_signOffSlot (s : State) (c : Console) (k : SlotNo) : Keeps may s (signOffSlot s c k) :=
  (setRoster_keeps (map_signedOff _ _)).after (setDesk_keeps ..)

theorem keeps_signOn (c : Console) (r : Request) (s : State) : Keeps may s (signOn c r s).1 :=
  keeps_decided fun _ => (keeps_reevaluateAll ..).after <| (keeps_offer ..).after (keeps_signOnSlot ..)

/-- R83: a record found as a console's incoming one is live. -/
theorem incomingRecord_live {c : Console} {r : RecordNo} (h : incomingRecord s c = some r) : (s.record r).phase ≠ .free := by
  have := List.find?_some h
  simp only [HoRecord.live, Bool.and_eq_true, bne_iff_ne] at this
  exact this.1

theorem keeps_abortIncoming (s : State) (c : Console) (op : Nat) : Keeps may s (abortIncoming s c op) := by
  unfold abortIncoming
  split
  · exact .refl s
  · next h => exact endRecord_keeps (incomingRecord_live h) (fun e => by cases e) ..

theorem keeps_takeSignOff (s : State) (c : Console) (k : SlotNo) : Keeps may s (takeSignOff s c k) :=
  (keeps_reevaluateAll ..).after <| (keeps_abortIncoming ..).after <| (keeps_offer ..).after (keeps_signOffSlot ..)

theorem keeps_signOff (c : Console) (r : Request) (s : State) : Keeps may s (signOff c r s).1 := by
  unfold signOff
  split
  · split
    · exact keeps_takeSignOff ..
    · exact .refl s
  · exact .refl s

/-! ## Acknowledgements, the alarm list, the horns -/

theorem keeps_ackPoint (c : Console) (r : Request) (s : State) : Keeps may s (ackPoint c r s).1 :=
  keeps_decided fun h => by
    have waits : (s.point (pointOf (num16 r.b3 r.b4))).unacknowledged = true := by
      simpa using passes h (b := !(s.point (pointOf (num16 r.b3 r.b4))).unacknowledged) (st := .state)
        (by simp [ackPointChecks])
    unfold takeAckPoint
    dsimp only [taken]
    split
    · exact .ofSequenced (completeAck_seq ..) (completeAck_orderly waits ..)
    · exact .ofSequenced (settleAck_seq ..) (settleAck_orderly waits _)

theorem keeps_ackArea (c : Console) (r : Request) (s : State) : Keeps may s (ackArea c r s).1 :=
  keeps_decided fun _ => by
    dsimp only [takeAcks, taken]
    exact keeps_ackPoints ..

theorem keeps_ackAll (c : Console) (r : Request) (s : State) : Keeps may s (ackAll c r s).1 :=
  keeps_decided fun _ => by
    dsimp only [takeAcks, taken, ackAllFrom]
    exact keeps_ackPoints ..

theorem keeps_silence (c : Console) (r : Request) (s : State) : Keeps may s (silence c r s).1 :=
  keeps_decided fun _ => setHorn_keeps ..

theorem keeps_listOpen (c : Console) (r : Request) (s : State) : Keeps may s (listOpen c r s).1 :=
  keeps_decided fun _ => setPort_keeps_of_flags rfl

theorem keeps_listNext (c : Console) (r : Request) (s : State) : Keeps may s (listNext c r s).1 :=
  keeps_decided fun _ => by
    unfold takeNext
    dsimp only
    split
    · exact .refl s
    · exact setPort_keeps_of_flags rfl

theorem keeps_lampTest (c : Console) (r : Request) (s : State) : Keeps may s (lampTest c r s).1 :=
  keeps_decided fun _ => { Keeps.refl s with }

/-! ## Desk lines -/

theorem keeps_lineChange (s : State) (d : Console) (b : Button) (l : Level) : Keeps may s (lineChange s d b l) := by
  unfold lineChange
  dsimp only
  split
  · exact .refl s
  · exact setDeskLine_keeps ..

theorem keeps_debounce (s : State) (d : Console) (b : Button) (l : Level) : Keeps may s (debounce s d b l) :=
  setDeskLine_keeps ..

theorem keeps_ackPress (s : State) (d : Console) : Keeps may s (ackPress s d) := by
  unfold ackPress
  split
  · exact keeps_offer ..
  · split
    · exact .refl s
    · exact keeps_ackPoints ..

theorem keeps_deskAckPress (d : Console) (s : State) : Keeps may s (deskAckPress d s) := by
  unfold deskAckPress
  split
  · exact (keeps_ackPress ..).after (keeps_debounce ..)
  · exact .refl s

theorem keeps_deskSilencePress (d : Console) (s : State) : Keeps may s (deskSilencePress d s) := by
  unfold deskSilencePress
  split
  · exact (setHorn_keeps ..).after (keeps_debounce ..)
  · exact .refl s

theorem keeps_deskTestPress (d : Console) (s : State) : Keeps may s (deskTestPress d s) := by
  unfold deskTestPress
  split
  · exact { keeps_debounce s d .test .pressed with }
  · exact .refl s

theorem keeps_deskTestRelease (d : Console) (s : State) : Keeps may s (deskTestRelease d s) := by
  unfold deskTestRelease
  split
  · exact keeps_debounce ..
  · exact .refl s

theorem keeps_deskButtonRelease (d : Console) (b : Button) (s : State) : Keeps may s (deskButtonRelease d b s) := by
  unfold deskButtonRelease
  split
  · exact keeps_debounce ..
  · exact .refl s

/-! ## The journal -/

/-- R155: a FIFO with records gone keeps its budget. -/
theorem budget_sublist {l l' : List JournalRecord} (h : l'.Sublist l)
    (k : l.length ≤ 256 ∧ (l.filter fun r => r.cls == .routine).length ≤ 224) :
    l'.length ≤ 256 ∧ (l'.filter fun r => r.cls == .routine).length ≤ 224 :=
  ⟨h.length_le.trans k.1, (h.filter _).length_le.trans k.2⟩

/-- The sender's changes: its stream, its unit, its line and what it has seen of the ready input. -/
structure Journal.Sends (j k : Journal) : Prop where
  fifo : k.fifo = j.fifo
  rate : k.rate = j.rate
  dropRoutine : k.dropRoutine = j.dropRoutine
  dropAccountable : k.dropAccountable = j.dropAccountable

theorem Journal.Sends.refl (j : Journal) : j.Sends j := ⟨rfl, rfl, rfl, rfl⟩

theorem Journal.Sends.trans {i j k : Journal} (h : i.Sends j) (g : j.Sends k) : i.Sends k :=
  ⟨g.fifo.trans h.fifo, g.rate.trans h.rate, g.dropRoutine.trans h.dropRoutine, g.dropAccountable.trans h.dropAccountable⟩

theorem kick_sends {i j : Journal} (h : i.Sends j) : i.Sends j.kick :=
  h.trans ⟨kick_fifo j, (kick_steady j).rate, kick_dropRoutine j, kick_dropAccountable j⟩

theorem resume_sends {i j : Journal} (h : i.Sends j) : i.Sends j.resume := by
  unfold Journal.resume
  split
  · exact h.trans ⟨rfl, rfl, rfl, rfl⟩
  · exact h

theorem start_sends (j : Journal) : j.Sends j.start := by
  unfold Journal.start
  split
  · exact .refl j
  · exact kick_sends ⟨rfl, rfl, rfl, rfl⟩

theorem stop_sends (j : Journal) : j.Sends j.stop := by
  unfold Journal.stop
  split
  · split <;> exact ⟨rfl, rfl, rfl, rfl⟩
  · exact .refl j

theorem keeps_sends {j : Journal} (h : s.journal.Sends j) : Keeps may s { s with journal := j } :=
  setJournal_keeps_of_same h.fifo h.rate h.dropRoutine h.dropAccountable

theorem keeps_readyChange (ready : Bool) (s : State) : Keeps may s (readyChange ready s) := keeps_sends ⟨rfl, rfl, rfl, rfl⟩

theorem keeps_journalByteSent (ready : Bool) (s : State) : Keeps may s (journalByteSent ready s) := by
  unfold journalByteSent
  dsimp only
  split
  · exact keeps_readyChange ..
  · exact keeps_sends (resume_sends ⟨rfl, rfl, rfl, rfl⟩)
  · split
    · exact keeps_sends (resume_sends ⟨rfl, rfl, rfl, rfl⟩)
    · exact keeps_readyChange ..

/-- R158: a record sent is gone from the FIFO's head, or the FIFO stays. -/
theorem leave_fifo (j : Journal) : j.leave.fifo = j.fifo ∨ j.leave.fifo = j.fifo.tail := by
  unfold Journal.leave
  dsimp only
  split
  · exact .inr rfl
  · exact .inl rfl

theorem leave_fifo_sublist (j : Journal) : j.leave.fifo.Sublist j.fifo := by
  obtain h | h := leave_fifo j <;> rw [h]
  exact List.tail_sublist _

/-- R158: a journal that a unit has left and that then sends. -/
theorem keeps_left {j k : Journal} (fifo : may .fifo) (hj : j.Sends s.journal) (h : j.leave.Sends k) :
    Keeps may s { s with journal := k } :=
  setJournal_keeps (fun n => absurd fifo n) (fun _ => h.rate.trans hj.rate.symm)
    (fun b => by
      simp only [Journal.withinBudget, h.fifo]
      exact budget_sublist (leave_fifo_sublist j) (by rw [← hj.fifo]; exact b))
    (by
      have hr : j.leave.dropRoutine = s.journal.dropRoutine := hj.dropRoutine.symm
      have ha : j.leave.dropAccountable = s.journal.dropAccountable := hj.dropAccountable.symm
      simp only [Journal.countersInRange, h.dropRoutine, h.dropAccountable, hr, ha, imp_self])

theorem keeps_journalRecordSent (fifo : may .fifo) (ready : Bool) (s : State) :
    Keeps may s (journalRecordSent ready s) := by
  unfold journalRecordSent
  dsimp only
  split
  · split
    · exact (keeps_journalEvent _).after
        (keeps_left (j := { s.journal with ready := ready }) fifo ⟨rfl, rfl, rfl, rfl⟩ ⟨rfl, rfl, rfl, rfl⟩)
    · exact keeps_left (j := { s.journal with ready := ready }) fifo ⟨rfl, rfl, rfl, rfl⟩ (kick_sends (.refl _))
  · exact keeps_readyChange ..

/-- R158: what JOURNAL_RECORD_SENT makes of the FIFO. -/
theorem journalRecordSent_fifo (ready : Bool) (s : State) :
    (journalRecordSent ready s).journal.fifo = s.journal.fifo ∨
      (journalRecordSent ready s).journal.fifo = s.journal.fifo.tail := by
  unfold journalRecordSent
  dsimp only
  split
  · split
    · exact leave_fifo { s.journal with ready := ready }
    · rw [kick_fifo]
      exact leave_fifo { s.journal with ready := ready }
  · exact .inl rfl

theorem keeps_readyResume (s : State) : Keeps may s (readyResume s) := by
  unfold readyResume
  split
  · exact keeps_sends ⟨rfl, rfl, rfl, rfl⟩
  · exact .refl s

theorem keeps_fillerStep (s : State) : Keeps may s (fillerStep s) := by
  have time : Keeps may s { s with time := { s.time with fillerDue := false } } :=
    setTime_keeps id (fun _ => rfl) (fun _ => rfl) fun _ => rfl
  have journal {j : Journal} (h : s.journal.Sends j) :
      Keeps may s { s with time := { s.time with fillerDue := false }, journal := j } :=
    (keeps_sends (s := { s with time := { s.time with fillerDue := false } }) h).after time
  unfold fillerStep
  dsimp only
  split
  · exact journal ⟨rfl, rfl, rfl, rfl⟩
  · split
    · exact journal ⟨rfl, rfl, rfl, rfl⟩
    · split
      · exact journal ⟨rfl, rfl, rfl, rfl⟩
      · exact time

theorem keeps_fillerEvent (s : State) : Keeps may s (fillerEvent s) := by
  unfold fillerEvent
  split
  · exact keeps_fillerStep s
  · exact .refl s

theorem keeps_setStream {j : Journal} (h : s.journal.Sends j) : Keeps may s (setStream s j) := by
  unfold setStream
  dsimp only
  split
  · exact keeps_sends h
  · exact (keeps_journalEvent _).after (keeps_sends h)

theorem keeps_journalStart (c : Console) (r : Request) (s : State) : Keeps may s (journalStart c r s).1 :=
  keeps_decided fun _ => keeps_setStream (start_sends _)

theorem keeps_journalStop (c : Console) (r : Request) (s : State) : Keeps may s (journalStop c r s).1 :=
  keeps_decided fun _ => keeps_setStream (stop_sends _)

theorem saturate16_le (n : Nat) : saturate16 n ≤ 65535 := Nat.min_le_left ..

theorem keeps_journalClear (fifo : may .fifo) (c : Console) (r : Request) (s : State) :
    Keeps may s (journalClear c r s).1 :=
  keeps_decided fun _ => by
    have cleared : Keeps may s { s with journal := s.journal.clear } :=
      setJournal_keeps (fun n => absurd fifo n) (fun _ => rfl)
        (budget_sublist (by
          unfold Journal.clear
          dsimp only
          split
          · exact List.take_sublist ..
          · exact List.nil_sublist _))
        fun _ => ⟨saturate16_le _, saturate16_le _⟩
    unfold takeClear
    dsimp only [taken]
    split
    · exact (keeps_settle510 _).after ((keeps_lossChange ..).after cleared)
    · exact cleared

theorem keeps_journalReset (fifo : may .fifo) (c : Console) (r : Request) (s : State) :
    Keeps may s (journalReset c r s).1 :=
  keeps_decided fun _ => by
    have cut : Keeps may s { s with journal := s.journal.cut } :=
      setJournal_keeps (fun n => absurd fifo n) (fun _ => rfl) (budget_sublist (List.nil_sublist _))
        fun _ => ⟨Nat.zero_le _, Nat.zero_le _⟩
    unfold takeReset
    dsimp only [taken]
    split
    · exact (keeps_settle510 _).after ((keeps_lossChange ..).after cut)
    · split
      · exact cut
      · exact (keeps_journalEvent _).after cut

theorem keeps_setTime (offset : may .offset) (c : Console) (r : Request) (s : State) : Keeps may s (setTime c r s).1 :=
  keeps_decided fun _ => (keeps_offer ..).after
    (setTime_keeps id (fun _ => rfl) (fun n => absurd offset n) fun _ => rfl)

/-! ## The field link -/

theorem keeps_setFraming (s : State) (f : Framing) : Keeps may s (s.setFraming f) := setReceiver_keeps id

theorem keeps_countFraming (s : State) : Keeps may s (countFraming s) :=
  setReceiver_keeps fun ⟨_, h2, h3, h4⟩ => ⟨saturate16_le _, h2, h3, h4⟩

theorem keeps_countCheck (s : State) : Keeps may s (countCheck s) :=
  setReceiver_keeps fun ⟨h1, _, h3, h4⟩ => ⟨h1, saturate16_le _, h3, h4⟩

theorem keeps_countGap (s : State) : Keeps may s (countGap s) :=
  setReceiver_keeps fun ⟨h1, h2, _, h4⟩ => ⟨h1, h2, saturate16_le _, h4⟩

theorem keeps_countUnknown (s : State) : Keeps may s (countUnknown s) :=
  setReceiver_keeps fun ⟨h1, h2, h3, _⟩ => ⟨h1, h2, h3, saturate16_le _⟩

theorem keeps_linkHeard (s : State) : Keeps may s (linkHeard s) := by
  unfold linkHeard
  dsimp only
  split
  · exact setReceiver_keeps id
  · exact (keeps_systemPoint ..).after <| (keeps_setFlagAt ..).after <| (keeps_offer ..).after (setReceiver_keeps id)

theorem keeps_sequenceTest (s : State) (seq : Byte) : Keeps may s (sequenceTest s seq) := by
  unfold sequenceTest
  dsimp only
  split
  · exact setReceiver_keeps id
  · split
    · exact setReceiver_keeps id
    · exact (keeps_offer ..).after <| (keeps_countGap _).after (setReceiver_keeps id)

theorem keeps_applyReport (s : State) (n : Nat) (state : Byte) : Keeps may s (applyReport s n state) := by
  unfold applyReport
  dsimp only
  split
  · exact keeps_countUnknown s
  · refine (keeps_pointInput ..).after ?_
    split
    · exact .refl s
    · exact keeps_countUnknown s

theorem keeps_applyKind (s : State) (kind : Byte) (n : Nat) (state : Byte) : Keeps may s (applyKind s kind n state) := by
  unfold applyKind
  split
  · exact .refl s
  · exact keeps_applyReport ..
  · exact keeps_applyReport ..
  · exact keeps_countUnknown s

theorem keeps_handleRun (s : State) (run : List Byte) : Keeps may s (handleRun s run) := by
  unfold handleRun handleRecord
  split
  · exact (keeps_applyKind ..).after <| (keeps_sequenceTest ..).after (keeps_linkHeard s)
  · exact .refl s

theorem keeps_lockedByte (s : State) (held : List Byte) (b : Byte) : Keeps may s (lockedByte s held b) := by
  unfold lockedByte
  split
  · split
    · exact keeps_setFraming ..
    · exact (keeps_setFraming ..).after (keeps_countFraming s)
  · split
    · exact keeps_setFraming ..
    · split
      · exact (keeps_handleRun ..).after (keeps_setFraming ..)
      · exact (keeps_setFraming ..).after (keeps_countCheck s)

theorem keeps_searchingByte (s : State) (window : List Byte) (b : Byte) : Keeps may s (searchingByte s window b) := by
  unfold searchingByte
  split
  · split
    · exact keeps_setFraming ..
    · exact .refl s
  · split
    · exact keeps_setFraming ..
    · split
      · exact (keeps_handleRun ..).after (keeps_setFraming ..)
      · exact keeps_setFraming ..

theorem keeps_receiveByte (s : State) (b : Byte) : Keeps may s (receiveByte s b) := by
  unfold receiveByte
  split
  · exact keeps_lockedByte ..
  · exact keeps_searchingByte ..

theorem keeps_lineError (s : State) : Keeps may s (lineError s) := by
  unfold lineError
  split
  · exact (keeps_setFraming ..).after (keeps_countFraming s)
  · exact keeps_setFraming ..

theorem keeps_linkLost (s : State) : Keeps may s (linkLost s) := by
  unfold linkLost
  split
  · unfold loseLink
    dsimp only
    exact (keeps_systemPoint ..).after <| (keeps_setFlagAt ..).after <| (keeps_offer ..).after <|
      (setReceiver_keeps (s := staleAll s) (x := { s.receiver with
        framing := .searching [], expected := none, link := .lost s.time.runClock }) id).after (staleAll_keeps s)
  · exact .refl s

theorem keeps_readLinkCounts (c : Console) (r : Request) (s : State) : Keeps may s (readLinkCounts c r s).1 :=
  keeps_decided fun _ => by
    dsimp only [taken]
    split
    · exact setReceiver_keeps fun _ => ⟨Nat.zero_le _, Nat.zero_le _, Nat.zero_le _, Nat.zero_le _⟩
    · exact .refl s

end Sys2Proof.Machine
end

section
/-! Every effect keeps the invariants, continued: handovers, takeover, the configuration writes, service control, the
shelf, the timers, and then every command but POWER_ON. -/

namespace Sys2Proof.Machine

variable {may : Aspect → Prop} {s t u : State}

/-! ## Handovers -/

/-- R88: the record found for an offer is FREE. -/
theorem freeRecord_free {r : RecordNo} (h : freeRecord s = some r) : (s.record r).phase = .free := by
  simpa using List.find?_some h

theorem keeps_hoOffer (c : Console) (r : Request) (s : State) : Keeps may s (hoOffer c r s).1 :=
  keeps_decided fun h => by
    have unnamed : ((members (areaSet r.b4 r.b5 r.b6)).any fun a => (s.area a).record.isSome) = false :=
      passes h (st := .inHandover) (by simp [offerChecks])
    have found : (freeRecord s).isNone = false := passes h (st := .full) (by simp [offerChecks])
    obtain ⟨n, hn⟩ := Option.isSome_iff_exists.mp (by simpa using found)
    rw [hn, Option.getD_some]
    unfold takeOffer
    dsimp only [taken]
    refine (keeps_setFlag ..).after <| (keeps_setFlag ..).after <| (keeps_offer ..).after ?_
    refine offerRecordOver_keeps (h := offeredRecord s c (consoleOf r.b3.toNat) (areaSet r.b4 r.b5 r.b6))
      (freeRecord_free hn) (by simp [offeredRecord]) (fun a ha => ?_) ⟨fun _ => ⟨rfl, rfl⟩, by simp [offeredRecord]⟩
    have := List.any_eq_false.mp unnamed a (mem_members.mpr ha)
    simpa using this

/-- R91: acceptance makes item 0 presented and none confirmed. -/
theorem acceptedRecord_checked (s : State) (c : Console) (h : HoRecord) : (acceptedRecord s c h).Checked := by
  constructor
  · intro e; simp [acceptedRecord] at e
  · intro _
    dsimp only [acceptedRecord]
    exact ⟨BitVec.zero_and, by decide⟩

theorem needPhase_passes {l : List Check} {r : RecordNo} {ph : Phase} (h : firstFailure l = none)
    (m : needPhase s r ph ∈ l) : (s.record r).phase = ph := by
  simpa using passes h m

theorem keeps_hoAccept (c : Console) (r : Request) (s : State) : Keeps may s (hoAccept c r s).1 :=
  keeps_decided fun h => by
    have offered : (s.record (recordOf r.b3.toNat)).phase = .offered := needPhase_passes h (by simp [acceptChecks])
    refine (keeps_setFlagParty ..).after <| (keeps_setFlagParty ..).after <| (keeps_reevaluateAll ..).after <|
      (keeps_offer ..).after <| (keeps_recomputeScopes _).after ?_
    exact setRecord_keeps (by simp [acceptedRecord, offered]) rfl fun _ => acceptedRecord_checked ..

theorem keeps_hoDecline (c : Console) (r : Request) (s : State) : Keeps may s (hoDecline c r s).1 :=
  keeps_decided fun h => by
    have offered : (s.record (recordOf r.b3.toNat)).phase = .offered := needPhase_passes h (by simp)
    exact endRecord_keeps (by simp [offered]) (fun e => by cases e) ..

theorem keeps_hoWithdraw (c : Console) (r : Request) (s : State) : Keeps may s (hoWithdraw c r s).1 :=
  keeps_decided fun h => by
    have live : (!(s.record (recordOf r.b3.toNat)).live) = false := passes h (st := .state) (by simp)
    exact endRecord_keeps (by simpa [HoRecord.live] using live) (fun e => by cases e) ..

/-- R95: the items confirmed stay among those presented, and item 0 is presented always. -/
theorem presentedRecord_checked {h : HoRecord} (reviewing : h.phase = .reviewing) (items : ItemSet) (mode : Notify)
    (watch : ItemSet) : (presentedRecord h items mode watch).Checked := by
  constructor
  · intro e; simp [presentedRecord, reviewing] at e
  · intro _
    refine ⟨?_, by simp [presentedRecord]⟩
    simp only [presentedRecord]
    rw [BitVec.and_assoc, BitVec.and_not_self]
    exact BitVec.and_zero

theorem keeps_hoPresent (c : Console) (r : Request) (s : State) : Keeps may s (hoPresent c r s).1 :=
  keeps_decided fun h => by
    have reviewing : (s.record (recordOf (packedRecord r.b3))).phase = .reviewing := needPhase_passes h (by simp)
    have presented : Keeps may s (s.setRecord (recordOf (packedRecord r.b3)) (presentedRecord
        (s.record (recordOf (packedRecord r.b3))) (itemSet r.b4 r.b5) (notifyOf r.b3) (itemSet r.b6 r.b7))) :=
      setRecord_keeps Iff.rfl rfl fun _ => presentedRecord_checked reviewing ..
    unfold takePresent
    dsimp only [taken]
    refine (keeps_checklistEvents ..).after (Keeps.after ?_ presented)
    split
    · exact keeps_setFlagParty ..
    · exact .refl _

theorem keeps_hoConfirm (c : Console) (r : Request) (s : State) : Keeps may s (hoConfirm c r s).1 :=
  keeps_decided fun h => by
    have reviewing : (s.record (recordOf (packedRecord r.b3))).phase = .reviewing := needPhase_passes h (by simp)
    have among : (itemSet r.b4 r.b5 &&& ~~~(s.record (recordOf (packedRecord r.b3))).presented != 0#16) = false :=
      passes h (st := .badOperand) (by simp)
    unfold takeConfirm
    dsimp only [taken]
    refine (keeps_checklistEvents ..).after (setRecord_keeps Iff.rfl rfl fun hc => ⟨fun e => ?_, fun _ => ⟨?_, ?_⟩⟩)
    · exact absurd (reviewing.symm.trans e) (by decide)
    · simpa using among
    · exact (hc.2 reviewing).2

theorem keeps_takeRelease (s : State) (r : RecordNo) (given : Bool) : Keeps may s (takeRelease s r given).1 := by
  have released : Keeps may s (s.setRecord r { s.record r with release := given }) :=
    setRecord_keeps Iff.rfl rfl id
  unfold takeRelease
  dsimp only [taken]
  split
  · exact released
  · exact (keeps_setFlagParty ..).after released

theorem keeps_hoRelease (c : Console) (r : Request) (s : State) : Keeps may s (hoRelease c r s).1 :=
  keeps_decided fun _ => keeps_takeRelease ..

theorem keeps_hoUnrelease (c : Console) (r : Request) (s : State) : Keeps may s (hoUnrelease c r s).1 :=
  keeps_decided fun _ => keeps_takeRelease ..

theorem keeps_hoTake (owners : may .owners) (c : Console) (r : Request) (s : State) : Keeps may s (hoTake c r s).1 :=
  keeps_decided fun h => by
    have reviewing : (s.record (recordOf r.b3.toNat)).phase = .reviewing := needPhase_passes h (by simp [takeChecks])
    exact endRecord_keeps (by simp [reviewing]) (fun _ => owners) ..

theorem keeps_hoForce (c : Console) (r : Request) (s : State) (owners : r.b4.toNat = 0 → may .owners) :
    Keeps may s (hoForce c r s).1 :=
  keeps_decided fun h => by
    let n := recordOf r.b3.toNat
    have live : (if r.b4.toNat = 0 then (s.record n).phase != .reviewing else !(s.record n).live) = false :=
      passes h (st := .state) (by simp [forceChecks, n])
    refine (keeps_setFlag ..).after ?_
    unfold forceEnd
    split
    · next commit =>
      rw [if_pos commit] at live
      have reviewing : (s.record n).phase = .reviewing := by simpa using live
      exact endRecord_keeps (r := n) (by simp [reviewing]) (fun _ => owners commit) ..
    · next cancel =>
      rw [if_neg cancel] at live
      exact endRecord_keeps (by simpa [HoRecord.live] using live) (fun e => by cases e) ..

theorem keeps_takeover (owners : may .owners) (c : Console) (r : Request) (s : State) : Keeps may s (takeover c r s).1 :=
  keeps_decided fun _ => (keeps_setFlagAt ..).after <| (keeps_reevaluateAll ..).after <| (keeps_offer ..).after <|
    (keeps_recomputeScopes _).after (giveAreas_keeps owners ..)

/-! ## The configuration writes (R174) -/

/-- R174: a configuration write is taken in CONFIGURING alone. -/
theorem configuring_of_passes {l : List Check} (h : firstFailure l = none) (m : needConfiguring s ∈ l) :
    s.mode = .configuring := by
  have := passes h m
  unfold State.inService at this
  cases e : s.mode with
  | configuring => rfl
  | inService => simp [e] at this

/-- R174: a taken configuration write may change settings. -/
theorem keeps_written {l : List Check} {k : State × Reply} (settings : s.mode = .configuring → may .settings)
    (m : needConfiguring s ∈ l) (h : may .settings → firstFailure l = none → Keeps may s k.1) :
    Keeps may s (decided s l k).1 :=
  keeps_decided fun e => h (settings (configuring_of_passes e m)) e

section Writes

variable (settings : s.mode = .configuring → may .settings) (c : Console) (r : Request)
include settings

theorem keeps_cfgPoint : Keeps may s (cfgPoint c r s).1 :=
  keeps_written settings (by simp [cfgPointChecks, cfgChecks]) fun m _ =>
    setPoint_keeps Iff.rfl fun n => absurd m n

theorem keeps_cfgArea : Keeps may s (cfgArea c r s).1 :=
  keeps_written settings (by simp [cfgChecks]) fun m _ =>
    setArea_keeps rfl rfl id (fun n => absurd m n) fun _ => rfl

theorem keeps_cfgOperator : Keeps may s (cfgOperator c r s).1 :=
  keeps_written settings (by simp [cfgOperatorChecks, cfgChecks]) fun m _ =>
    { Keeps.refl s with settings := fun n => absurd m n }

theorem keeps_cfgTiming : Keeps may s (cfgTiming c r s).1 :=
  keeps_written settings (by simp [cfgChecks]) fun m _ => { Keeps.refl s with settings := fun n => absurd m n }

theorem keeps_cfgLinks : Keeps may s (cfgLinks c r s).1 :=
  keeps_written settings (by simp [cfgChecks]) fun m _ => by
    have timed (x : Timing) : Keeps may s { s with timing := x } :=
      { Keeps.refl s with settings := fun n => absurd m n }
    dsimp only [taken]
    unfold writtenLinks
    split
    · unfold writeBaud
      dsimp only
      split
      · exact timed _
      · refine Keeps.after ?_ (timed { s.timing with fieldBaud := num16 r.b4 r.b5 })
        exact setReceiver_keeps id
    · exact timed _
    · exact setJournal_keeps (fun _ => List.prefix_refl _) (fun n => absurd m n) id id

theorem keeps_cfgFlood : Keeps may s (cfgFlood c r s).1 :=
  keeps_written settings (by simp [cfgChecks]) fun m _ => by
    dsimp only [taken]
    unfold writtenFlood
    split
    · exact setArea_keeps rfl rfl id (fun n => absurd m n) fun _ => rfl
    · split <;> exact { Keeps.refl s with settings := fun n => absurd m n }

theorem keeps_cfgBoard : Keeps may s (cfgBoard c r s).1 :=
  keeps_written settings (by simp [cfgChecks]) fun m _ => { Keeps.refl s with settings := fun n => absurd m n }

theorem keeps_cfgClock : Keeps may s (cfgClock c r s).1 :=
  keeps_written settings (by simp [cfgChecks]) fun m _ =>
    setTime_keeps id (fun _ => rfl) (fun _ => rfl) fun n => absurd m n

end Writes

/-! ## Service control -/

/-- R132: a frame that begins has sent nothing. -/
theorem chainSound_of_start {b : Board} (due : b.frameDue = false) (count : b.count = 0) : b.chainSound := by
  intro _ periods near tile hn
  have : periods = 0 := by simp [periods, due, count]
  simp [this] at hn

theorem chainSound_of_stopped {b : Board} (h : b.scanner = .stopped) : b.chainSound := fun n => absurd h n

theorem keeps_startFrame (s : State) : Keeps may s (startFrame s) :=
  { Keeps.refl s with
    counters := fun ⟨h1, h2, _, h4⟩ => ⟨h1, h2, Nat.zero_lt_succ _, h4⟩
    chain := fun _ => chainSound_of_start rfl rfl }

theorem keeps_startBlankFrame (s : State) : Keeps may s (startBlankFrame s) :=
  { Keeps.refl s with
    counters := fun ⟨h1, h2, _, h4⟩ => ⟨h1, h2, Nat.zero_lt_succ _, h4⟩
    chain := fun _ => chainSound_of_start rfl rfl }

theorem keeps_restarted (c : Console) (e : RestartEvent) (op : Nat) (s : State) : Keeps may s (restarted c e op s) :=
  (keeps_settle510 _).after <| Keeps.after (.ofSequenced (offerAlone_seq ..) (offerAlone_orderly ..))
    (restartLive_keeps c s)

theorem keeps_bringSystemPoints (s : State) : Keeps may s (bringSystemPoints s) :=
  (keeps_systemPoint ..).after <| (keeps_systemPoint ..).after <| (keeps_systemPoint ..).after (keeps_systemPoint ..)

theorem area_committedSettings (s : State) (a : AreaNo) : (committedSettings s).area a = (s.area a).applyToff :=
  mapTable_getElem ..

/-- R177: the settings made at COMMIT_CONFIG. -/
theorem keeps_committedSettings (mode : may .mode) (settings : may .settings) (s : State) :
    Keeps may s (committedSettings s) :=
  have tallied : Tallied s (committedSettings s) := ⟨fun _ => rfl, fun a => by rw [area_committedSettings]; rfl⟩
  { Keeps.refl s with
    loads := fun k a => by rw [area_committedSettings]; exact k a
    records := fun k a n => by rw [area_committedSettings]; exact k a n
    counts := tallied.countsExact
    owners := fun _ a => by rw [area_committedSettings, Area.applyToff]
    mode := fun n => absurd mode n
    settings := fun n => absurd settings n }

theorem keeps_commitConfig (mode : may .mode) (settings : s.mode = .configuring → may .settings) (c : Console)
    (r : Request) : Keeps may s (commitConfig c r s).1 :=
  keeps_written settings (by simp [cfgChecks]) fun m _ => (keeps_startFrame _).after <|
    (keeps_bringSystemPoints _).after <| (keeps_restarted ..).after (keeps_committedSettings mode m s)

theorem keeps_restart (c : Console) (r : Request) (s : State) : Keeps may s (restart c r s).1 :=
  keeps_decided fun _ => (keeps_bringSystemPoints _).after (keeps_restarted ..)

theorem keeps_reconfigure (mode : may .mode) (c : Console) (r : Request) (s : State) :
    Keeps may s (reconfigure c r s).1 :=
  keeps_decided fun _ => (keeps_startBlankFrame _).after <| (keeps_restarted ..).after
    { Keeps.refl s with mode := fun n => absurd mode n }

/-! ## The shelf and the groups -/

theorem keeps_shelve (c : Console) (r : Request) (s : State) : Keeps may s (shelve c r s).1 :=
  keeps_decided fun h => by
    have room : (decide (32 ≤ s.shelf.length) && !onShelf s (pointOf (num16 r.b3 r.b4))) = false :=
      passes h (st := .full) (by simp [shelveChecks])
    unfold takeShelve
    dsimp only [taken]
    refine (keeps_offer ..).after (placeOnShelf_keeps rfl ?_)
    by_cases on : onShelf s (pointOf (num16 r.b3 r.b4)) = true
    · exact .inl on
    · simp only [on, Bool.not_false, Bool.and_true, decide_eq_false_iff_not] at room
      exact .inr (by omega)

theorem keeps_unshelve (c : Console) (r : Request) (s : State) : Keeps may s (unshelve c r s).1 :=
  keeps_decided fun _ => by
    unfold takeUnshelve
    dsimp only [taken]
    exact leaveShelf_keeps ..

theorem keeps_expireDue (s : State) : Keeps may s (expireDue s) :=
  Keeps.foldl (f := expireEntry) (fun s e => leaveShelf_keeps s e.point _) _ s

theorem keeps_rearmGroup (c : Console) (r : Request) (s : State) : Keeps may s (rearmGroup c r s).1 :=
  keeps_decided fun _ => .ofSequenced (rearm_seq ..) (rearm_orderly ..)

/-! ## The timers -/

theorem keeps_slotBoundary (s : State) : Keeps may s (slotBoundary s) := by
  unfold slotBoundary
  split
  · exact setSlots_keeps (fun _ => Nat.mod_lt _ (by decide)) id
  · exact .refl s

theorem keeps_chirpEnd (c : Console) (s : State) : Keeps may s (chirpEnd c s) := by
  unfold chirpEnd
  split
  · exact setHorn_keeps ..
  · exact .refl s

theorem keeps_decayArea (s : State) (a : AreaNo) : Keeps may s (decayArea s a) := by
  have less : (s.area a).load ≤ 32767 → decayed (s.area a).load s.decayShift ≤ 32767 :=
    (Nat.sub_le ..).trans
  unfold decayArea
  dsimp only
  split
  · refine (keeps_judgeHold ..).after <| (keeps_setFlagInScope ..).after <| (keeps_offer ..).after ?_
    refine Keeps.after (setArea_keeps ?_ ?_ ?_ (fun _ => ?_) fun _ => ?_) (setArea_keeps rfl rfl less (fun _ => rfl) fun _ => rfl)
      <;> rw [State.area_setArea_same]
    · rfl
    · exact id
    · rfl
  · exact setArea_keeps rfl rfl less (fun _ => rfl) fun _ => rfl

theorem keeps_decayAll (s : State) : Keeps may s (decayAll s) := Keeps.foldl keeps_decayArea _ s

/-- R79, R89: a record that counts is live. -/
theorem live_of_counting {h : HoRecord} (k : h.counting = true) : h.phase ≠ .free := by
  unfold HoRecord.counting at k
  intro e
  simp [e] at k

theorem keeps_setRest (s : State) (x : Option TickRest) : Keeps may s { s with time := { s.time with rest := x } } :=
  setTime_keeps id (fun _ => rfl) (fun _ => rfl) fun _ => rfl

theorem keeps_countRecords (last : Bool) (l : List RecordNo) (s : State) : Keeps may s (countRecords last l s) := by
  induction l generalizing s with
  | nil =>
    unfold countRecords
    dsimp only
    split
    · exact (keeps_decayAll _).after (keeps_setRest ..)
    · exact keeps_setRest ..
  | cons r l ih =>
    unfold countRecords
    dsimp only
    split
    · split
      · exact keeps_setRest ..
      · exact (ih _).after (setRecord_keeps Iff.rfl rfl id)
    · exact ih s

theorem keeps_secondsTick (first : Bool) (s : State) : Keeps may s (secondsTick first s) := by
  have sender (s : State) : Keeps may s (senderStep s) := by
    unfold senderStep
    split
    · exact keeps_fillerStep s
    · exact .refl s
  have work (s : State) : Keeps may s (secondsWork first s) := by
    refine (keeps_countRecords ..).after ?_
    split
    · exact .refl s
    · exact keeps_decayAll s
  unfold secondsTick
  dsimp only
  split
  · have due : Keeps may s { s with time := { s.time with secondsDue := false } } :=
      setTime_keeps id (fun _ => rfl) (fun _ => rfl) fun _ => rfl
    refine (sender _).after (Keeps.after ?_ due)
    split
    · exact work _
    · exact .refl _
  · exact .refl s

theorem keeps_lapseRecord (s : State) (r : RecordNo) : Keeps may s (lapseRecord s r) := by
  unfold lapseRecord
  dsimp only
  split
  · next counting =>
    have counted : Keeps may s (s.setRecord r { s.record r with timer := (s.record r).timer - 1 }) :=
      setRecord_keeps Iff.rfl rfl id
    split
    · refine (endRecord_keeps ?_ (fun e => by cases e) ..).after counted
      rw [State.record_setRecord_same]
      exact live_of_counting counting
    · exact counted
  · exact .refl s

theorem keeps_hoLapse (s : State) : Keeps may s (hoLapse s) := by
  unfold hoLapse
  split
  · exact (keeps_countRecords ..).after (keeps_lapseRecord ..)
  · exact .refl s

theorem keeps_becomeAbsent (s : State) (c : Console) : Keeps may s (becomeAbsent s c) := by
  unfold becomeAbsent
  dsimp only
  have k : Keeps may s (setFlagAt .presence (allFour.filter (· != c)) (offer
      (s.setDesk c { s.desk c with presence := .absent s.time.runClock })
      (journalRecord (s.setDesk c { s.desk c with presence := .absent s.time.runClock }) .absent .accountable c c 0#6
        (s.operatorNumber c) (s.desk c).lastHeard))) :=
    (keeps_setFlagAt ..).after <| (keeps_offer ..).after (setDesk_keeps ..)
  split
  · exact (keeps_reevaluateAll ..).after k
  · exact (keeps_systemPoint ..).after <| (keeps_reevaluateAll ..).after k

theorem keeps_consoleAbsent (s : State) : Keeps may s (consoleAbsent s) := by
  unfold consoleAbsent
  split
  · exact keeps_becomeAbsent ..
  · exact .refl s

theorem keeps_escalate (s : State) : Keeps may s (escalate s) := by
  unfold escalate
  split
  · exact .ofKept (escalateArea_kept ..) (escalateArea_orderly ..)
  · exact .refl s

/-- R132: a frame's end leaves a frame that begins, or a scanner that has stopped. -/
theorem keeps_boardFrame (s : State) : Keeps may s (boardFrame s) := by
  unfold boardFrame
  dsimp only
  split
  · refine Keeps.after ?_ (keeps_slotBoundary s)
    split
    · exact
        { Keeps.refl (slotBoundary s) with
          counters := fun ⟨h1, h2, _, h4⟩ => ⟨h1, h2, Nat.zero_lt_succ _, h4⟩
          chain := fun _ => chainSound_of_start rfl rfl }
    · exact
        { Keeps.refl (slotBoundary s) with
          chain := fun _ => chainSound_of_stopped rfl }
  · exact .refl s

theorem boardFrame_frameDue (s : State) : (boardFrame s).board.frameDue = false := by
  unfold boardFrame
  dsimp only
  split
  · split <;> rfl
  · next h => simpa using h

theorem keeps_deskEvents (s : State) (d : Console) : Keeps may s (deskEvents s d) :=
  (keeps_deskButtonRelease ..).after <| (keeps_deskButtonRelease ..).after <| (keeps_deskTestRelease ..).after <|
    (keeps_deskTestPress ..).after <| (keeps_deskSilencePress ..).after (keeps_deskAckPress ..)

theorem keeps_deskEventsAll (s : State) : Keeps may s (allFour.foldl deskEvents s) := Keeps.foldl keeps_deskEvents _ s

theorem keeps_chirpEndAll (s : State) : Keeps may s (allFour.foldl (fun s c => chirpEnd c s) s) :=
  Keeps.foldl (fun s c => keeps_chirpEnd c s) _ s

theorem keeps_escalateAll (s : State) : Keeps may s (allAreas.foldl (fun s _ => escalate s) s) :=
  Keeps.foldl (fun s _ => keeps_escalate s) _ s

theorem keeps_closeOut (s : State) : Keeps may s (closeOut s) := by
  unfold closeOut
  dsimp only
  exact (keeps_boardFrame _).after <| (keeps_deskEventsAll _).after <| (keeps_linkLost _).after <|
    (keeps_escalateAll _).after <| (keeps_consoleAbsent _).after <| (keeps_consoleAbsent _).after <|
    (keeps_consoleAbsent _).after <| (keeps_consoleAbsent _).after <| (keeps_expireDue _).after <|
    (keeps_chirpEndAll _).after <| (keeps_hoLapse _).after <| (keeps_hoLapse _).after <| (keeps_hoLapse _).after <|
    (keeps_hoLapse _).after <| (keeps_readyResume _).after <| (keeps_fillerEvent _).after <|
    (keeps_secondsTick ..).after (keeps_slotBoundary s)

/-- R176: a tick counts a millisecond, where no frame's end is due. -/
theorem keeps_advance (clock : may .clock) (ready : Bool) (due : s.board.frameDue = false) :
    Keeps may s (advance ready s) := by
  have second : s.time.milli < 1000 → s.time.tick.milli < 1000 := by
    unfold TimeBase.tick
    split
    · simp
    · simp; omega
  have slot (h : s.slots.slot < 16) : s.slots.tick.slot < 16 := by
    unfold SlotGenerator.tick
    split <;> exact h
  have within : s.slots.count < 125 → s.slots.tick.count < 125 := by
    unfold SlotGenerator.tick
    split
    · simp
    · simp; omega
  have offset : s.time.tick.offset = s.time.offset := by unfold TimeBase.tick; split <;> rfl
  have divider : s.time.tick.refDivide = s.time.refDivide := by unfold TimeBase.tick; split <;> rfl
  exact
    { Keeps.refl s with
      counters := fun ⟨h1, h2, h3, h4⟩ => ⟨slot h1, within h2, tick_count h3, second h4⟩
      chain := tick_chainSound due
      clock := fun n => absurd clock n
      offset := fun _ => offset
      settings := fun _ => by
        simp only [State.settings, advance, divider]
        rfl }

theorem closeOut_frameDue (s : State) : (closeOut s).board.frameDue = false := by
  unfold closeOut
  dsimp only
  rw [boardFrame_frameDue]

theorem keeps_millisecondTick (clock : may .clock) (ready : Bool) (s : State) :
    Keeps may s (advance ready (closeOut s)) :=
  (keeps_advance clock ready (closeOut_frameDue s)).after (keeps_closeOut s)

end Sys2Proof.Machine
end

section
/-! Every command but POWER_ON keeps the invariants and everything that it is not named for (O56, O57, O59, O60). -/

namespace Sys2Proof.Machine

variable {s t u : State}

/-- What a command may change: the aspects for which its rule names it, and the configuration while CONFIGURING. -/
def waives (i : Instr) (s : State) : Aspect → Prop
  | .flags c => ∃ r, i = .clearFlags c r ∨ i = .portReset c r
  | .fifo => (∃ c r, i = .journalClear c r ∨ i = .journalReset c r) ∨ ∃ b, i = .journalRecordSent b
  | .owners => i.wellFormed = false ∨ ∃ c r, i = .hoTake c r ∨ i = .hoForceCommit c r ∨ i = .takeover c r
  | .clock => ∃ b, i = .millisecondTick b
  | .offset => ∃ c r, i = .setTime c r
  | .mode => ∃ c r, i = .commitConfig c r ∨ i = .reconfigure c r
  | .settings => s.mode = .configuring

/-- A request's body, run on what the arrival of its frame leaves. -/
theorem keeps_body {may : Aspect → Prop} {c : Console} {r : Request} {body : State → State × Reply}
    (h : ∀ s, Keeps may s (body s).1) (e : request c r body s = .next t) : Keeps may s t :=
  keeps_request (h _) e

/-- A configuration write's body, which may change settings where the part is CONFIGURING. -/
theorem keeps_write {may : Aspect → Prop} {c : Console} {r : Request} {body : State → State × Reply}
    (settings : s.mode = .configuring → may .settings)
    (h : ∀ {u}, (u.mode = .configuring → may .settings) → Keeps may u (body u).1) (e : request c r body s = .next t) :
    Keeps may s t :=
  keeps_request (h (by rwa [frameArrives_mode])) e

theorem keeps_respondKeeping {may : Aspect → Prop} (c : Console) (x : Response) (s : State) :
    Keeps may s (respondKeeping c x s) := setPort_keeps_of_flags rfl

theorem keeps_clearFlags {may : Aspect → Prop} {c : Console} (flags : may (.flags c)) (r : Request) (s : State) :
    Keeps may s (clearFlags c r s).1 :=
  keeps_decided fun _ => setPort_keeps fun n => absurd flags n

theorem keeps_setMask {may : Aspect → Prop} (c : Console) (r : Request) (s : State) : Keeps may s (setMask c r s).1 :=
  keeps_decided fun _ => setPort_keeps_of_flags rfl

theorem keeps_readShelf {may : Aspect → Prop} (c : Console) (r : Request) (s : State) :
    Keeps may s (readShelf c r s).1 :=
  keeps_decided fun _ => by split <;> exact .refl s

theorem exec_keeps {i : Instr} (hp : i ≠ .powerOn) (h : exec i s = .next t) : Keeps (waives i s) s t := by
  cases i with
  | nop c r => exact keeps_event ((keeps_respondKeeping ..).after (keeps_frameArrives c s)) h
  | readMore c r => exact keeps_event ((keeps_respondKeeping ..).after (keeps_frameArrives c s)) h
  | portReset c r =>
    exact keeps_event ((setPort_keeps fun n => absurd ⟨r, .inr rfl⟩ n).after (keeps_frameArrives c s)) h
  | readFlags c r => exact keeps_body (fun s => .refl s) h
  | clearFlags c r => exact keeps_body (keeps_clearFlags ⟨r, .inl rfl⟩ r) h
  | setMask c r => exact keeps_body (keeps_setMask c r) h
  | readConditions c r => exact keeps_body (fun s => .refl s) h
  | signOn c r => exact keeps_body (keeps_signOn c r) h
  | signOff c r => exact keeps_body (keeps_signOff c r) h
  | readSignon c r => exact keeps_body (fun _ => keeps_read) h
  | readOperator c r => exact keeps_body (fun _ => keeps_read) h
  | ackPoint c r => exact keeps_body (keeps_ackPoint c r) h
  | ackArea c r => exact keeps_body (keeps_ackArea c r) h
  | ackAll c r => exact keeps_body (keeps_ackAll c r) h
  | silence c r => exact keeps_body (keeps_silence c r) h
  | listOpen c r => exact keeps_body (keeps_listOpen c r) h
  | listNext c r => exact keeps_body (keeps_listNext c r) h
  | readPoint c r => exact keeps_body (fun _ => keeps_read) h
  | readArea c r => exact keeps_body (fun _ => keeps_read) h
  | readHorn c r => exact keeps_body (fun _ => keeps_read) h
  | lampTest c r => exact keeps_body (keeps_lampTest c r) h
  | shelve c r => exact keeps_body (keeps_shelve c r) h
  | unshelve c r => exact keeps_body (keeps_unshelve c r) h
  | readShelf c r => exact keeps_body (keeps_readShelf c r) h
  | rearmGroup c r => exact keeps_body (keeps_rearmGroup c r) h
  | readGroup c r => exact keeps_body (fun _ => keeps_read) h
  | readFlood c r => exact keeps_body (fun _ => keeps_read) h
  | takeover c r => exact keeps_body (keeps_takeover (.inr ⟨c, r, .inr (.inr rfl)⟩) c r) h
  | hoOffer c r => exact keeps_body (keeps_hoOffer c r) h
  | hoAccept c r => exact keeps_body (keeps_hoAccept c r) h
  | hoDecline c r => exact keeps_body (keeps_hoDecline c r) h
  | hoWithdraw c r => exact keeps_body (keeps_hoWithdraw c r) h
  | hoPresent c r => exact keeps_body (keeps_hoPresent c r) h
  | hoConfirm c r => exact keeps_body (keeps_hoConfirm c r) h
  | hoRelease c r => exact keeps_body (keeps_hoRelease c r) h
  | hoUnrelease c r => exact keeps_body (keeps_hoUnrelease c r) h
  | hoTake c r => exact keeps_body (keeps_hoTake (.inr ⟨c, r, .inl rfl⟩) c r) h
  | hoForceCommit c r => exact keeps_body (fun s => keeps_hoForce c r s fun _ => .inr ⟨c, r, .inr (.inl rfl)⟩) h
  | hoForceCancel c r =>
    refine keeps_body (fun s => keeps_hoForce c r s fun commit => .inl ?_) h
    have zero : r.b4 = 0#8 := BitVec.eq_of_toNat_eq commit
    simp [Instr.wellFormed, zero]
  | hoRead c r => exact keeps_body (fun _ => keeps_read) h
  | setTime c r => exact keeps_body (keeps_setTime ⟨c, r, rfl⟩ c r) h
  | journalStart c r => exact keeps_body (keeps_journalStart c r) h
  | journalStop c r => exact keeps_body (keeps_journalStop c r) h
  | journalClear c r => exact keeps_body (keeps_journalClear (.inl ⟨c, r, .inl rfl⟩) c r) h
  | journalReset c r => exact keeps_body (keeps_journalReset (.inl ⟨c, r, .inr rfl⟩) c r) h
  | readJournal c r => exact keeps_body (fun _ => keeps_read) h
  | readLinkCounts c r => exact keeps_body (keeps_readLinkCounts c r) h
  | cfgPoint c r => exact keeps_write id (fun m => keeps_cfgPoint m c r) h
  | cfgArea c r => exact keeps_write id (fun m => keeps_cfgArea m c r) h
  | cfgOperator c r => exact keeps_write id (fun m => keeps_cfgOperator m c r) h
  | cfgTiming c r => exact keeps_write id (fun m => keeps_cfgTiming m c r) h
  | cfgFlood c r => exact keeps_write id (fun m => keeps_cfgFlood m c r) h
  | cfgLinks c r => exact keeps_write id (fun m => keeps_cfgLinks m c r) h
  | cfgBoard c r => exact keeps_write id (fun m => keeps_cfgBoard m c r) h
  | cfgClock c r => exact keeps_write id (fun m => keeps_cfgClock m c r) h
  | commitConfig c r => exact keeps_write id (fun m => keeps_commitConfig ⟨c, r, .inl rfl⟩ m c r) h
  | restart c r => exact keeps_body (keeps_restart c r) h
  | reconfigure c r => exact keeps_body (keeps_reconfigure ⟨c, r, .inr rfl⟩ c r) h
  | badCheck c tag => exact keeps_event (keeps_respondKeeping ..) h
  | badCommand c code r => exact keeps_request (body := fun s => (s, ⟨.badCommand, []⟩)) (.refl _) h
  | shortFrame c => exact keeps_event (.refl s) h
  | powerOn => exact absurd rfl hp
  | millisecondTick ready => exact keeps_event (keeps_millisecondTick ⟨ready, rfl⟩ ready s) h
  | secondsTick timersFirst => exact keeps_event (keeps_secondsTick timersFirst s) h
  | slotBoundary => exact keeps_event (keeps_slotBoundary s) h
  | chirpEnd c => exact keeps_event (keeps_chirpEnd c s) h
  | consoleAbsent => exact keeps_event (keeps_consoleAbsent s) h
  | escalate => exact keeps_event (keeps_escalate s) h
  | expire => exact keeps_event (keeps_expireDue s) h
  | hoLapse => exact keeps_event (keeps_hoLapse s) h
  | linkLost => exact keeps_event (keeps_linkLost s) h
  | fieldByte b => exact keeps_event (keeps_receiveByte s b) h
  | fieldLineError => exact keeps_event (keeps_lineError s) h
  | fieldRecord kind pointHi pointLo state seq => exact keeps_event (Keeps.foldl keeps_receiveByte _ s) h
  | boardFrame => exact keeps_event (keeps_boardFrame s) h
  | deskLineChange d b l => exact keeps_event (keeps_lineChange s d b l) h
  | deskAckPress d => exact keeps_event (keeps_deskAckPress d s) h
  | deskSilencePress d => exact keeps_event (keeps_deskSilencePress d s) h
  | deskTestPress d => exact keeps_event (keeps_deskTestPress d s) h
  | deskTestRelease d => exact keeps_event (keeps_deskTestRelease d s) h
  | deskButtonRelease d b => exact keeps_event (keeps_deskButtonRelease d b s) h
  | journalRecordSent ready => exact keeps_event (keeps_journalRecordSent (.inr ⟨ready, rfl⟩) ready s) h
  | journalReadyResume => exact keeps_event (keeps_readyResume s) h
  | filler => exact keeps_event (keeps_fillerEvent s) h
  | journalByteSent ready => exact keeps_event (keeps_journalByteSent ready s) h

/-! ## POWER_ON and the reset state (R180) -/

/-- Every invariant of the part. -/
structure State.AllSound (s : State) : Prop where
  budget : s.journal.withinBudget
  drops : s.journal.countersInRange
  links : s.receiver.counts.inRange
  loads : s.loadsInRange
  counters : s.countsInRange
  chain : s.board.chainSound
  shelf : s.shelfSound
  checklists : s.checklistsSound
  records : s.recordsSound
  counts : s.countsExact

/-- R180: the power-on values have every invariant, whatever stands outside the part. -/
theorem powerOnValues_sound (pending : List Instr) (lines : Vector DeskLines 4) (ready : Bool)
    (chain lamps : Vector LampWord 32) : (State.powerOnValues pending lines ready chain lamps).AllSound := by
  let s := State.powerOnValues pending lines ready chain lamps
  have point (p : PointNo) : s.point p = .reset := by simp [s, State.point, State.powerOnValues]
  have area (a : AreaNo) : s.area a = .reset := by simp [s, State.area, State.powerOnValues]
  have record (n : RecordNo) : s.record n = .reset := by simp [s, State.record, State.powerOnValues]
  exact
    { budget := ⟨Nat.zero_le _, Nat.zero_le _⟩
      drops := ⟨Nat.zero_le _, Nat.zero_le _⟩
      links := ⟨Nat.zero_le _, Nat.zero_le _, Nat.zero_le _, Nat.zero_le _⟩
      loads := fun a => by rw [area]; exact Nat.zero_le _
      counters := ⟨Nat.zero_lt_succ _, Nat.zero_lt_succ _, Nat.zero_lt_succ _, Nat.zero_lt_succ _⟩
      chain := chainSound_of_start rfl rfl
      shelf := ⟨Nat.zero_le _, List.nodup_nil, fun p => by
        rw [point]
        exact iff_of_false (by decide) (by simp [State.powerOnValues])⟩
      checklists := fun n => by rw [record]; exact reset_checked
      records := fun a n => by
        rw [area, record]
        exact iff_of_false (by simp [Area.reset]) (by simp [HoRecord.reset])
      counts := by
        rw [State.countsExact_iff]
        intro a
        have nothing (f : Point → Bool) (hf : f .reset = false) : 0 = s.counting f := by
          rw [State.counting_eq]
          simp [point, hf]
        constructor <;> rw [area] <;> exact nothing _ rfl }

/-- R180: nobody's horn, line or frame asks for anything at reset. -/
theorem reset_pinsAgree : State.reset.pinsAgree := by
  have quiet (c : Console) : hornDemand State.reset c = [] := by
    refine List.filter_eq_nil_iff.mpr fun x hx => ?_
    have point : State.reset.point x.1 = .reset := by simp [State.point, State.reset, State.powerOnValues]
    have entry : x.2 = .reset := (mem_entries.mp hx).symm.trans point
    simp [inDemand, entry, Point.reset]
  refine ⟨fun c => ?_, fun c => ?_, ?_, ?_⟩
  · have released : ∀ c, (State.reset.horn c).out = false := by decide
    have none : demandPriority State.reset c = none := by simp [demandPriority, quiet]
    rw [none, released]
    exact iff_of_false (by decide) id
  · have port : State.reset.port c = .reset := by simp [State.port, State.reset, State.powerOnValues]
    simp [port, Port.reset]
  · have area (a : AreaNo) : State.reset.area a = .reset := by simp [State.area, State.reset, State.powerOnValues]
    simp [area, Area.reset]
    rfl
  · refine ⟨fun _ => ⟨rfl, rfl⟩, fun low => ?_, fun late => ?_⟩
    · exact absurd low (by decide)
    · exact absurd late (by decide)

theorem settle_allSound (h : s.AllSound) : (settle s).AllSound := by
  have k : Keeps (fun _ => False) s (settle s) := keeps_settle s
  exact
    { budget := k.budget h.budget, drops := k.drops h.drops, links := k.links h.links, loads := k.loads h.loads
      counters := k.counters h.counters, chain := k.chain h.chain, shelf := k.shelf h.shelf
      checklists := k.checklists h.checklists, records := k.records h.records, counts := k.counts h.counts }

theorem exec_powerOn_sound (h : exec .powerOn s = .next t) : t.AllSound := by
  obtain rfl : settle _ = t := Host.Outcome.next.inj h
  exact settle_allSound (powerOnValues_sound ..)

/-- Each invariant that a state has, the state after any command has. -/
theorem exec_sound {i : Instr} (h : exec i s = .next t) : Sound s t := by
  by_cases hp : i = .powerOn
  · subst hp
    obtain ⟨h1, h2, h3, h4, h5, h6, h7, h8, h9, h10⟩ := exec_powerOn_sound h
    exact ⟨fun _ => h1, fun _ => h2, fun _ => h3, fun _ => h4, fun _ => h5, fun _ => h6, fun _ => h7, fun _ => h8,
      fun _ => h9, fun _ => h10⟩
  · exact (exec_keeps hp h).toSound

/-- Each invariant that a state has, the state after a step has. -/
theorem step_sound (h : step s = .next t) : Sound s t := by
  obtain ⟨-, rfl⟩ | ⟨c, rest, -, hc⟩ := step_cases h
  · exact .refl t
  · exact { exec_sound hc with }

/-- R169: what CLEAR_FLAGS leaves of its port's flags. -/
theorem exec_clearFlags_flags {c : Console} {r : Request} (h : exec (.clearFlags c r) s = .next t) :
    ∃ p, (s.port c).flags &&& p = (s.port c).flags ∧
      ((t.port c).flags = p ∨ (t.port c).flags = p &&& ~~~flagSet r.b3 r.b4) := by
  obtain rfl : settle (answer c r.tag (clearFlags c r (frameArrives c s))) = t := Host.Outcome.next.inj h
  refine ⟨((frameArrives c s).port c).flags, ((frameArrives_base c s).ports c).flags, ?_⟩
  rw [settle_port, answer, State.port_setPort_same]
  unfold clearFlags decided
  dsimp only
  split
  · exact .inl rfl
  · rw [taken, State.port_setPort_same]
    exact .inr rfl

end Sys2Proof.Machine

namespace Sys2Proof.Proofs

open Sys2Proof.Machine

/-- Settles O56: `exec_keeps` for every command but POWER_ON, whose values have every invariant. -/
theorem soundStatesStaySound : Obligations.SoundStatesStaySound := by
  intro s t h
  have k := step_sound h
  exact ⟨k.budget, k.drops, k.links, k.loads, k.counters, k.chain, k.shelf, k.checklists, k.records⟩

/-- Settles O57. -/
theorem countsStayExact : Obligations.CountsStayExact := fun _ _ exact_s h => (step_sound h).counts exact_s

/-- Settles O59: a flag outlasts the arrival of a CLEAR_FLAGS frame, and leaves only where it is named. -/
theorem flagsAndRecordsStay : Obligations.FlagsAndRecordsStay := by
  intro i s t d h hp
  have k := exec_keeps hp h
  refine ⟨?_, fun other => k.flags d ?_, fun notCleared notSent => k.fifo ?_, ?_⟩
  · rintro r rfl
    obtain ⟨p, grown, left | left⟩ := exec_clearFlags_flags h <;> rw [left]
    · rw [BitVec.and_assoc, BitVec.and_comm (~~~_), ← BitVec.and_assoc, grown]
    · have twice : ∀ x y n : FlagSet, x &&& n &&& (y &&& n) = x &&& y &&& n := by
        intro x y n
        rw [BitVec.and_assoc, BitVec.and_comm y n, ← BitVec.and_assoc n, BitVec.and_self, BitVec.and_comm n,
          ← BitVec.and_assoc]
      rw [twice, grown]
  · rintro ⟨r, e | e⟩
    · exact (other r).1 e
    · exact (other r).2 e
  · rintro (⟨c, r, e | e⟩ | ⟨b, e⟩)
    · exact (notCleared c r).1 e
    · exact (notCleared c r).2 e
    · exact notSent b e
  · rintro b rfl
    obtain rfl : settle (journalRecordSent b s) = t := Host.Outcome.next.inj h
    exact journalRecordSent_fifo b s

/-- Settles O60. -/
theorem onlyNamedCommandsChangeThese : Obligations.OnlyNamedCommandsChangeThese := by
  intro i s t wf h hp
  have k := exec_keeps hp h
  refine ⟨fun other => k.owners ?_, fun other => k.clock ?_, fun other => k.offset ?_, fun other => k.mode ?_,
    fun inService => ?_⟩
  · rintro (bad | ⟨c, r, e | e | e⟩)
    · exact absurd (wf.symm.trans bad) (by decide)
    · exact (other c r).1 e
    · exact (other c r).2.1 e
    · exact (other c r).2.2 e
  · rintro ⟨b, e⟩
    exact other b e
  · rintro ⟨c, r, e⟩
    exact other c r e
  · rintro ⟨c, r, e | e⟩
    · exact (other c r).1 e
    · exact (other c r).2 e
  · have same := k.settings fun e : s.mode = .configuring => absurd (inService.symm.trans e) (by decide)
    simp only [State.settings, Settings.mk.injEq] at same
    obtain ⟨points, areas, timing, weights, decayShift, pattern, refDivide, rate, roster⟩ := same
    exact ⟨congrFun points, congrFun areas, timing, weights, decayShift, pattern, refDivide, rate, congrFun roster⟩

/-- Settles O58: the power-on values have every invariant, and drive their pins as the state asks. -/
theorem resetIsSound : Obligations.ResetIsSound := by
  obtain ⟨h1, h2, h3, h4, h5, h6, h7, h8, h9, h10⟩ :=
    powerOnValues_sound [] (Vector.replicate 4 DeskLines.up) false (Vector.replicate 32 .blank) (Vector.replicate 32 .blank)
  exact ⟨reset_pinsAgree, h1, h2, h3, h4, h5, h6, h7, h8, h9, h10⟩

end Sys2Proof.Proofs
end

section
/-! Power-on, the step, and the frames of a console port (R166, R167). -/

namespace Sys2Proof.Machine

/-- 10.3: an unlisted code is spelled by BAD_COMMAND, which carries it. -/
theorem frameOf_requestOf (code : Byte) (c : Console) (r : Request) :
    frameOf (requestOf code c r) = some (c, code, r) := by
  unfold requestOf
  split
  case h_38 h =>
    have : 0x49#8 = code := BitVec.eq_of_toNat_eq h.symm
    split <;> exact congrArg (fun k => some (c, k, r)) this
  case h_58 => rfl
  all_goals
    rename_i h
    exact congrArg (fun k => some (c, k, r)) (BitVec.eq_of_toNat_eq h.symm)

theorem wellFormed_requestOf (code : Byte) (c : Console) (r : Request) : (requestOf code c r).wellFormed = true := by
  unfold requestOf
  split
  case h_38 =>
    split
    · exact beq_iff_eq.mpr ‹_›
    · exact bne_iff_ne.mpr ‹_›
  case h_58 =>
    have unlisted : ¬ code ∈ listedCodes := by simp_all [listedCodes, BitVec.toNat_eq]
    simpa [Instr.wellFormed, listedCode] using unlisted
  all_goals rfl

/-- 10.3: each row's code is read as that row, HO_FORCE's two rows by their action byte. -/
theorem requestOf_frameOf (i : Instr) : Laws.FrameReadBack.Statement i := by
  cases i
  case hoForceCommit => exact Laws.FrameReadBack.hoForceCommit _ _
  case hoForceCancel => exact Laws.FrameReadBack.hoForceCancel _ _
  case badCommand => exact Laws.FrameReadBack.badCommand _ _ _
  all_goals
    intro _ c code r spelled
    cases spelled <;> rfl

theorem decodeFrame_requestBytes (c : Console) (code : Byte) (r : Request) :
    decodeFrame c (requestBytes code r) 0 = requestOf code c r :=
  if_pos (BitVec.xor_self (x := byteXor [code, r.tag, r.b3, r.b4, r.b5, r.b6, r.b7]))

/-- R167: the eighth byte is the one that closes the XOR of the other seven. -/
theorem requestBytes_of_byteXor (code b8 : Byte) (r : Request)
    (good : byteXor [code, r.tag, r.b3, r.b4, r.b5, r.b6, r.b7, b8] = 0#8) :
    requestBytes code r = [code, r.tag, r.b3, r.b4, r.b5, r.b6, r.b7, b8] := by
  have closes : byteXor [code, r.tag, r.b3, r.b4, r.b5, r.b6, r.b7] ^^^ b8 = 0#8 := good
  rw [requestBytes, BitVec.xor_eq_zero_iff.mp closes]

theorem decodeFrame_short (c : Console) (l : List Byte) (bits : Nat) (short : l.length < 8) :
    decodeFrame c l bits = .shortFrame c := by
  unfold decodeFrame
  split
  · rfl
  · split
    · simp only [List.length_cons] at short; omega
    · rfl

theorem byteOut_past (x : Response) (k : Nat) (past : 8 ≤ k) : x.byteOut k = 0#8 :=
  List.getD_eq_default x.bytes 0#8 past

end Sys2Proof.Machine

namespace Sys2Proof.Proofs

open Sys2Proof.Machine

/-- Settles O1. -/
theorem stepRunsTheFrontCommand : Obligations.StepRunsTheFrontCommand := by
  refine ⟨fun c rest s => rfl, fun s idle => ?_⟩
  unfold step
  rw [idle]

/-- Settles O2: each table of the reset state holds one entry's reset value throughout. -/
theorem resetHoldsThePowerOnValues : Obligations.ResetHoldsThePowerOnValues := by
  have point (p : PointNo) : State.reset.point p = .reset := by simp [State.point, State.reset, State.powerOnValues]
  have area (a : AreaNo) : State.reset.area a = .reset := by simp [State.area, State.reset, State.powerOnValues]
  have record (r : RecordNo) : State.reset.record r = .reset := by simp [State.record, State.reset, State.powerOnValues]
  have desk (c : Console) : State.reset.desk c = .reset := by simp [State.desk, State.reset, State.powerOnValues]
  have port (c : Console) : State.reset.port c = .reset := by simp [State.port, State.reset, State.powerOnValues]
  have released : ∀ c, (State.reset.horn c).out = false := by decide
  refine ⟨rfl, rfl, rfl, rfl, fun p => ?_, fun a => ?_, fun r => ?_, fun c => ?_, rfl, rfl, rfl, rfl, rfl⟩
  · rw [point]; exact ⟨rfl, rfl, rfl, rfl⟩
  · rw [area]; exact ⟨rfl, rfl, rfl, rfl, rfl, rfl, rfl⟩
  · rw [record]; exact ⟨rfl, rfl⟩
  · rw [State.presentAt, desk, port]; exact ⟨rfl, rfl, rfl, rfl, rfl, released c⟩

/-- Settles O3. -/
theorem framesReadBack : Obligations.FramesReadBack := by
  intro i c l formed encoded
  obtain ⟨⟨d, code, r⟩, spelled, frame⟩ := Option.map_eq_some_iff.mp encoded
  obtain ⟨rfl, rfl⟩ := Prod.mk.inj frame
  rw [decodeFrame_requestBytes, requestOf_frameOf i formed d code r spelled]

/-- Settles O4. -/
theorem everyFrameIsRead : Obligations.EveryFrameIsRead := by
  intro c b1 b2 b3 b4 b5 b6 b7 b8 more s l x out
  refine ⟨rfl, fun good => ?_, fun bad => if_neg bad, fun n bits few => ?_, fun bits part => if_pos part,
    ⟨x.status.code ^^^ x.tag ^^^ x.r1 ^^^ x.r2 ^^^ x.r3 ^^^ x.r4 ^^^ x.r5, rfl, ?_⟩, fun k past => ?_, rfl, fun byte => rfl⟩
  · have read : decodeFrame c l 0 = requestOf b1 c ⟨b2, b3, b4, b5, b6, b7⟩ := if_pos good
    have bytes : requestBytes b1 ⟨b2, b3, b4, b5, b6, b7⟩ = l := requestBytes_of_byteXor b1 b8 ⟨b2, b3, b4, b5, b6, b7⟩ good
    rw [read, encodeFrame, frameOf_requestOf, wellFormed_requestOf]
    exact ⟨congrArg (fun m => some (c, m)) bytes, rfl⟩
  · exact decodeFrame_short c (l.take n) bits (lt_of_le_of_lt (List.length_take_le n l) few)
  · simp [byteXor]
  · exact congrArg some (byteOut_past x k past)

end Sys2Proof.Proofs
end

section
/-! The requests that read: R8, R11, R45, R55, R66, R70, R108, R130, R149, R164, R169 and R171. -/

namespace Sys2Proof.Machine

/-! ## A request that passes its checks -/

/-- R167, R168: a request whose checks pass, and whose rule takes it, is answered OK with its record. -/
theorem exec_taken {i : Instr} {c : Console} {r : Request} {s u : State} {body : State → State × Reply} {l : List Check}
    {k : State × Reply} {record : List Byte} (arm : exec i s = request c r body s)
    (spelled : body (frameArrives c s) = decided (frameArrives c s) l k) (pass : firstFailure l = none)
    (takes : k = taken u record) : exec i s = .next (answeredOk c r record u) := by
  rw [arm, request, spelled, decided_taken pass, takes]
  rfl

theorem passes_one {b : Bool} {st : Status} (h : b = false) : firstFailure [fails b st] = none :=
  firstFailure_none.mpr fun _ m => List.mem_singleton.mp m ▸ h

theorem decide_lt_false {n m : Nat} (h : m ≤ n) : decide (n < m) = false := decide_eq_false (Nat.not_lt.mpr h)

/-! ## Operands in range (R173) -/

section
variable {n : Nat}

theorem pointOf_eq {p : PointNo} (h : n = p.val) : pointOf n = p := h ▸ Fin.ofNat_val_eq_self p
theorem areaOf_eq {a : AreaNo} (h : n = a.val) : areaOf n = a := h ▸ Fin.ofNat_val_eq_self a
theorem consoleOf_eq {c : Console} (h : n = c.val) : consoleOf n = c := h ▸ Fin.ofNat_val_eq_self c
theorem recordOf_eq {r : RecordNo} (h : n = r.val) : recordOf n = r := h ▸ Fin.ofNat_val_eq_self r
theorem slotOf_eq {k : SlotNo} (h : n = k.val) : slotOf n = k := h ▸ Fin.ofNat_val_eq_self k
theorem groupOf_eq {g : GroupNo} (h : n = g.val + 1) : groupOf n = g := by
  subst h
  exact Fin.ofNat_val_eq_self g

end

theorem byte_eq_of_toNat {b : Byte} {n : Nat} (h : b = BitVec.ofNat 8 n) (small : n < 256) : b.toNat = n := by
  subst h
  exact Nat.mod_eq_of_lt small

end Sys2Proof.Machine

namespace Sys2Proof.Proofs

open Sys2Proof.Machine

/-- Settles O6. -/
theorem flagAndConditionRequests : Obligations.FlagAndConditionRequests := by
  intro c r s s1 p named
  refine ⟨rfl, rfl, fun inService => ?_⟩
  have service : firstFailure [needService s1] = none := passes_one (by simp [s1, State.configuring, inService])
  exact ⟨exec_taken rfl rfl service rfl, exec_taken rfl rfl service rfl⟩

end Sys2Proof.Proofs
end

section
/-! The tables' readers: R8, R11 and R45. -/

namespace Sys2Proof.Machine

theorem append_eq {a b x y : List Byte} (h : a = x) (k : b = y) : a ++ b = x ++ y := h ▸ k ▸ rfl

theorem ackView_byte (c : Console) (q : Point) :
    byte1 (ackView c q) = [if c ∈ q.ackSet then 0#8 else if q.ackSet = [] then 2#8 else 1#8] := by
  simp only [ackView, List.contains_iff_mem, List.isEmpty_iff]
  split
  · rfl
  · split <;> rfl

end Sys2Proof.Machine

namespace Sys2Proof.Proofs

open Sys2Proof.Machine

/-- Settles O8. -/
theorem tableReaders : Obligations.TableReaders := by
  intro c r s s1 yesNo maybe
  refine ⟨fun n named => ?_, fun k named => ?_, fun p named => ?_, fun a named => ?_⟩
  · have console : consoleOf r.b3.toNat = n := consoleOf_eq named
    have inRange : firstFailure [fails (decide (3 < r.b3.toNat)) .badOperand] = none :=
      passes_one (decide_lt_false (by omega))
    refine ⟨fun k op signed held => exec_taken rfl rfl inRange (congrArg (taken s1) ?_),
      fun nobody => exec_taken rfl rfl inRange (congrArg (taken s1) ?_)⟩
    · have operator : s1.operatorAt n = some op := by rw [State.operatorAt, signed]; exact held
      rw [console, signed, operator]
    · rw [console, nobody]
      rfl
  · have inRange : firstFailure [fails (decide (63 < r.b3.toNat)) .badOperand] = none :=
      passes_one (decide_lt_false (by omega))
    refine exec_taken rfl rfl inRange (congrArg (taken s1) ?_)
    have entry : s1.roster[slotOf r.b3.toNat] = s1.roster[k] := congrArg (fun j : SlotNo => s1.roster[j]) (slotOf_eq named)
    change operatorBytes s1.roster[slotOf r.b3.toNat] = _
    rw [entry]
    cases s1.roster[k] with
    | none => rfl
    | some op =>
      refine append_eq rfl ?_
      cases op.console <;> rfl
  · intro q page
    have point : pointOf (num16 r.b3 r.b4) = p := pointOf_eq named
    have reads {n : Nat} {l : List Byte} (small : n ≤ 4) (bytes : pointPage c q n = l) : page (BitVec.ofNat 8 n) l := by
      intro which
      have number : r.b5.toNat = n := byte_eq_of_toNat which (by omega)
      refine exec_taken rfl rfl (passes_one ?_) (congrArg (taken s1) ?_)
      · rw [number]
        simp only [Bool.or_eq_false_iff, decide_eq_false_iff_not]
        omega
      · rw [point, number]
        exact bytes
    have optional {α : Type} (f : α → List Byte) (x : Option α) : optBytes 4 f x = maybe 4 (x.map f) := by
      cases x <;> rfl
    have yes (b : Bool) : boolByte b = yesNo b := by cases b <;> rfl
    refine ⟨reads (Nat.zero_le _) ?_, reads (by omega) (optional _ _), reads (by omega) (optional _ _),
      reads (by omega) (optional _ _), reads (by omega) ?_⟩
    · iterate 10 refine append_eq ?_ ?_
      · exact yes _
      · rfl
      · rfl
      · rfl
      · exact yes _
      · cases q.input <;> rfl
      · cases q.quality <;> rfl
      · cases q.state <;> rfl
      · exact ackView_byte c q
      · rcases q.firstMark with _ | _ | _ <;> rfl
      · exact yes _
    · change optBytes 4 (fun k : AckInfo => byte1 k.console ++ byte2 k.operator ++ boolByte k.override) q.ack = _
      cases q.ack with
      | none => rfl
      | some k => exact congrArg (1#8 :: ·) (append_eq rfl (yes _))
  · intro e page
    have area : areaOf r.b3.toNat = a := areaOf_eq named
    have reads {n : Nat} {l : List Byte} (small : n ≤ 3) (bytes : areaPage s1 e n = l) : page (BitVec.ofNat 8 n) l := by
      intro which
      have number : r.b4.toNat = n := byte_eq_of_toNat which (by omega)
      refine exec_taken rfl rfl (passes_one ?_) (congrArg (taken s1) ?_)
      · rw [number]
        simp only [Bool.or_eq_false_iff, decide_eq_false_iff_not]
        omega
      · rw [area, number]
        exact bytes
    refine ⟨reads (Nat.zero_le _) ?_, reads (by omega) rfl, reads (by omega) rfl, reads (by omega) ?_⟩
    · iterate 5 refine append_eq ?_ ?_
      · rfl
      · cases e.attendance <;> rfl
      · cases e.record with
        | none => rfl
        | some n => exact congrArg (1#8 :: ·) (append_eq rfl (by cases (s1.record n).phase <;> rfl))
      · rfl
      · cases e.jointAck <;> rfl
      · rfl
    · change optBytes 4 byte4 e.attendance.since = _
      cases e.attendance <;> rfl

end Sys2Proof.Proofs
end

section
/-! The blocks' readers: R55, R66, R70, R108, R130, R149 and R164. -/

namespace Sys2Proof.Machine

theorem boolByte_eq (b : Bool) : boolByte b = if b then [1#8] else [0#8] := by cases b <;> rfl

/-- R66, R168: a request whose checks pass and whose rule answers END has no record. -/
theorem exec_end {i : Instr} {c : Console} {r : Request} {s u : State} {body : State → State × Reply} {l : List Check}
    {k : State × Reply} (arm : exec i s = request c r body s)
    (spelled : body (frameArrives c s) = decided (frameArrives c s) l k) (pass : firstFailure l = none)
    (ends : k = (u, ⟨.endOfList, []⟩)) :
    exec i s = .next (settle (u.setPort c { u.port c with
      response := ⟨.endOfList, r.tag, 0#8, 0#8, 0#8, 0#8, 0#8⟩, result := [] })) := by
  rw [arm, request, spelled, decided_taken pass, ends]
  rfl

/-- R70: a selector below 24 is an area's number. -/
theorem floodBytes_area (s : State) (a : AreaNo) :
    floodBytes s a = byte2 (s.area a).load ++ byte1 (s.area a).flood.code ++ byte2 (s.area a).tOn ++
      byte2 (s.area a).tOffWritten ++ byte2 (s.area a).tOffApplied := by
  unfold floodBytes
  split
  case h_6 => rw [areaOf_eq rfl]
  all_goals omega

theorem groupBytes_armed {s : State} {g : GroupNo} (h : s.groups[g] = .armed) :
    groupBytes s g = [0#8] ++ [0#8, 0#8, 0#8] ++ [0#8, 0#8] ++ memberBytes s g := by
  unfold groupBytes
  rw [h]
  rfl

theorem groupBytes_tripped {s : State} {g : GroupNo} {p : PointNo} (h : s.groups[g] = .tripped p) :
    groupBytes s g = [1#8] ++ (1#8 :: byte2 p) ++ (1#8 :: byte1 (s.point p).state.code) ++ memberBytes s g := by
  unfold groupBytes
  rw [h]
  rfl

end Sys2Proof.Machine

namespace Sys2Proof.Proofs

open Sys2Proof.Machine

/-- Settles O9. -/
theorem blockReaders : Obligations.BlockReaders := by
  intro c r s s1
  have selector {n : Nat} {l : List Byte} (h : r.b3.toNat = n) (small : n ≤ 28) (bytes : floodBytes s1 n = l) :
      exec (.readFlood c r) s = .next (answeredOk c r l s1) :=
    exec_taken rfl rfl (passes_one (decide_lt_false (by omega))) (by rw [h]; exact congrArg (taken s1) bytes)
  refine ⟨fun n named => ?_, fun place => ⟨fun e found => ?_, fun beyond => ?_⟩, fun g named => ?_, fun a named => ?_,
    fun h => selector h (by omega) rfl, fun h => selector h (by omega) rfl, fun h => selector h (by omega) rfl,
    fun h => selector h (by omega) rfl, fun h => selector h (by omega) rfl⟩
  · refine exec_taken rfl rfl (passes_one (decide_lt_false (by omega))) (congrArg (taken s1) ?_)
    rw [consoleOf_eq named]
    refine append_eq (append_eq (append_eq (append_eq rfl ?_) rfl) rfl) rfl
    change [demandByte (demandPriority s1 n)] = _
    cases demandPriority s1 n <;> rfl
  · refine exec_taken (u := s1) rfl rfl (passes_one (decide_lt_false place)) ?_
    change (match s1.shelf[r.b3.toNat]? with
      | none => ((s1, ⟨.endOfList, []⟩) : State × Reply)
      | some e => taken s1 (shelfBytes s1 e)) = _
    rw [found]
    rfl
  · refine exec_end rfl rfl (passes_one (decide_lt_false place)) ?_
    change (match s1.shelf[r.b3.toNat]? with
      | none => ((s1, ⟨.endOfList, []⟩) : State × Reply)
      | some e => taken s1 (shelfBytes s1 e)) = _
    rw [List.getElem?_eq_none beyond]
  · have inRange : (r.b3.toNat == 0 || decide (8 < r.b3.toNat)) = false := by
      rw [named]; simp
    refine exec_taken rfl rfl (passes_one inRange) (congrArg (taken s1) ?_)
    rw [groupOf_eq named]
    cases state : s1.groups[g] with
    | armed => exact (groupBytes_armed state).trans (List.append_assoc ..).symm
    | tripped p => exact (groupBytes_tripped state).trans (List.append_assoc ..).symm
  · exact selector named (by omega) (floodBytes_area s1 a)

/-- Settles O10. -/
theorem recordJournalAndLinkReaders : Obligations.RecordJournalAndLinkReaders := by
  intro c r s s1 yesNo maybe mode j k counts
  have optional {α : Type} (n : Nat) (f : α → List Byte) (x : Option α) : optBytes n f x = maybe n (x.map f) := by
    cases x <;> rfl
  have yes (b : Bool) : boolByte b = yesNo b := boolByte_eq b
  refine ⟨fun n named => ?_, fun page => ?_, fun page => ?_, fun flag => ?_, fun flag => ?_⟩
  · intro h page
    have reads {n : Nat} {l : List Byte} (small : n ≤ 3) (bytes : recordPage h n = l) : page (BitVec.ofNat 8 n) l := by
      intro which
      have number : r.b4.toNat = n := byte_eq_of_toNat which (by omega)
      refine exec_taken rfl rfl (passes_one ?_) (congrArg (taken s1) ?_)
      · rw [number]
        simp only [Bool.or_eq_false_iff, decide_eq_false_iff_not]
        omega
      · rw [recordOf_eq named, number]
        exact bytes
    have told (m : Notify) : byte1 m.code = mode m := by cases m <;> rfl
    refine ⟨reads (Nat.zero_le _) ?_, reads (by omega) ?_, reads (by omega) ?_, reads (by omega) ?_⟩
    · refine append_eq (append_eq (append_eq (append_eq (append_eq ?_ ?_) (optional ..)) ?_) (optional ..)) rfl
      · cases h.phase <;> rfl
      · cases h.outConsole <;> rfl
      · cases h.inConsole <;> rfl
    · exact append_eq (append_eq (append_eq rfl (yes _)) (yes _)) rfl
    · exact append_eq (append_eq (append_eq (told _) rfl) (told _)) rfl
    · refine (optional 2 _ _).trans (congrArg (fun f => maybe 2 (h.lastOutcome.map f)) (funext fun x => ?_))
      exact append_eq (by cases x.1 <;> rfl) (by cases x.2 <;> rfl)
  · have number : r.b3.toNat = 0 := byte_eq_of_toNat page (by omega)
    refine exec_taken rfl rfl (passes_one (decide_lt_false (by omega))) (congrArg (taken s1) ?_)
    rw [number]
    refine append_eq (append_eq (append_eq (append_eq (append_eq (append_eq (append_eq (append_eq ?_ rfl) rfl) ?_) rfl)
      rfl) rfl) (yes _)) rfl
    · change byte1 j.stream.code = _
      cases j.stream <;> rfl
    · change byte1 (unitCode j.unit) = _
      rcases j.unit with _ | _ | _ <;> rfl
  · have number : r.b3.toNat = 1 := byte_eq_of_toNat page (by omega)
    exact exec_taken rfl rfl (passes_one (decide_lt_false (by omega))) (by rw [number]; rfl)
  · exact exec_taken rfl rfl (passes_one (decide_lt_false (by omega))) (by rw [flag]; rfl)
  · exact exec_taken rfl rfl (passes_one (decide_lt_false (by omega))) (by rw [flag]; rfl)

end Sys2Proof.Proofs
end

section
/-! Who may ask, and the sign-ons: R10 to R15. -/

namespace Sys2Proof.Machine

/-! ## Checks that pass -/

@[simp] theorem firstFailure_nil : firstFailure [] = none := rfl

@[simp] theorem firstFailure_fails_cons {b : Bool} {st : Status} {l : List Check} :
    firstFailure (fails b st :: l) = none ↔ b = false ∧ firstFailure l = none := by
  cases b <;> simp [firstFailure, fails]

@[simp] theorem firstFailure_append {l m : List Check} :
    firstFailure (l ++ m) = none ↔ firstFailure l = none ∧ firstFailure m = none := by
  simp only [firstFailure_none, List.forall_mem_append]

@[simp] theorem frameArrives_nobodyAt (c d : Console) (s : State) : (frameArrives c s).nobodyAt d = s.nobodyAt d := by
  simp [State.nobodyAt]

@[simp] theorem frameArrives_traineeAt (c d : Console) (s : State) : (frameArrives c s).traineeAt d = s.traineeAt d := by
  simp [State.traineeAt]

@[simp] theorem frameArrives_supervisorAt (c d : Console) (s : State) :
    (frameArrives c s).supervisorAt d = s.supervisorAt d := by
  simp [State.supervisorAt]

@[simp] theorem frameArrives_operatorNumber (c d : Console) (s : State) :
    (frameArrives c s).operatorNumber d = s.operatorNumber d := by
  simp [State.operatorNumber]

variable {s : State} {c : Console}

theorem needService_pass (h : s.mode = .inService) : firstFailure [needService s] = none :=
  passes_one (by simp [State.configuring, h])

/-- R10: IN_SERVICE with an operator the requests R10 lists pass their console tests. -/
theorem ackChecks_pass (h : s.operatorReady c) : firstFailure (ackChecks s c) = none := by
  obtain ⟨service, somebody, noTrainee⟩ := h
  simp [ackChecks, needService, needOperator, State.configuring, service, somebody, noTrainee]

theorem somebody_of_supervisor (h : s.supervisorAt c = true) : s.nobodyAt c = false := by
  unfold State.supervisorAt at h
  unfold State.nobodyAt
  cases e : s.operatorAt c <;> simp_all

/-- R10: IN_SERVICE with a supervisor at console 0 its requests pass their console tests. -/
theorem stopChecks_pass (h : s.supervisorReady) : firstFailure (stopChecks s 0) = none := by
  obtain ⟨service, supervisor⟩ := h
  simp [stopChecks, needService, needSupervisor, needLead, State.configuring, service, supervisor,
    somebody_of_supervisor supervisor]

theorem frameArrives_operatorReady (h : s.operatorReady c) (d : Console) : (frameArrives d s).operatorReady c := by
  simpa [State.operatorReady] using h

theorem frameArrives_supervisorReady (h : s.supervisorReady) (d : Console) : (frameArrives d s).supervisorReady := by
  simpa [State.supervisorReady] using h

/-! ## Sign-on -/

/-- R12: the slot of a number that one slot alone holds. -/
theorem slotOfNumber_eq {k : SlotNo} {op : Operator} (held : s.roster[k] = some op)
    (alone : ∀ (j : SlotNo) (o : Operator), s.roster[j] = some o → o.number = op.number → j = k) :
    slotOfNumber s op.number = some k := by
  unfold slotOfNumber
  cases found : (entries s.roster).find? fun x => x.2.any (·.number == op.number) with
  | none =>
    have := List.find?_eq_none.mp found (k, some op) (mem_entries.mpr held)
    simp at this
  | some x =>
    obtain ⟨j, slot⟩ := x
    have entry : s.roster[j] = slot := mem_entries.mp (List.mem_of_find?_eq_some found)
    have hit := List.find?_some found
    cases slot with
    | none => simp at hit
    | some o =>
      have number : o.number = op.number := by simpa using hit
      rw [alone j o entry number]
      rfl

theorem signOnSlot_held {k : SlotNo} {op : Operator} (held : s.roster[k] = some op) :
    signOnSlot s c k = { s.setDesk c { s.desk c with signedOn := some k } with
      roster := s.roster.set k (some { op with console := some c }) } := by
  have entry : (s.setDesk c { s.desk c with signedOn := some k }).roster[k] = some op := held
  unfold signOnSlot
  dsimp only
  rw [entry]
  rfl

theorem signOffSlot_held {k : SlotNo} {op : Operator} (held : s.roster[k] = some op) :
    signOffSlot s c k = { s.setDesk c { s.desk c with signedOn := none } with
      roster := s.roster.set k (some { op with console := none }) } := by
  have entry : (s.setDesk c { s.desk c with signedOn := none }).roster[k] = some op := held
  unfold signOffSlot
  dsimp only
  rw [entry]
  rfl

theorem operatorNumber_of_slot {k : SlotNo} {op : Operator} (signed : (s.desk c).signedOn = some k)
    (held : s.roster[k] = some op) : s.operatorNumber c = op.number := by
  have operator : s.operatorAt c = some op := by
    rw [State.operatorAt, signed]
    exact held
  rw [State.operatorNumber, operator]
  rfl

/-- R11: the operator signed on is the one that its slot names. -/
theorem operatorNumber_signOnSlot {k : SlotNo} {op : Operator} (held : s.roster[k] = some op) :
    (signOnSlot s c k).operatorNumber c = op.number := by
  rw [signOnSlot_held held]
  refine operatorNumber_of_slot (k := k) (op := { op with console := some c }) ?_ ?_
  · change ((s.setDesk c { s.desk c with signedOn := some k }).desk c).signedOn = some k
    rw [State.desk_setDesk, if_pos rfl]
  · exact Vector.getElem_set_self ..

end Sys2Proof.Machine

namespace Sys2Proof.Proofs

open Sys2Proof.Machine

/-- Settles O11. -/
theorem signOnTaken : Obligations.SignOnTaken := by
  intro c r s k op s1 s2 s3 service positive small operand held alone here free
  have held1 : s1.roster[k] = some op := by simpa [s1] using held
  have slot : slotOfNumber s1 (num16 r.b3 r.b4) = some k := by
    rw [operand]
    exact slotOfNumber_eq held1 (by simpa [s1] using alone)
  have elsewhere : ((some k).bind fun k => s1.roster[k]).any (fun op => op.console.any (· != c)) = false := by
    change (s1.roster[k]).any (fun op => op.console.any (· != c)) = false
    rw [held1]
    rcases here with here | here <;> simp [here]
  have pass : firstFailure (signOnChecks s1 c (num16 r.b3 r.b4) (slotOfNumber s1 (num16 r.b3 r.b4))) = none := by
    rw [slot, operand]
    refine firstFailure_fails_cons.mpr ⟨by simp [s1, State.configuring, service], ?_⟩
    simp only [firstFailure_fails_cons, firstFailure_nil, and_true, Option.isNone_some]
    refine ⟨?_, trivial, elsewhere, ?_⟩
    · rw [Bool.or_eq_false_iff]; exact ⟨by simp; omega, decide_eq_false (by omega)⟩
    · simp [s1, free]
  refine exec_taken rfl rfl pass ?_
  rw [slot]
  have offered : offer (signOnSlot s1 c k) (journalRecord (signOnSlot s1 c k) .signOn .accountable c c 0#6
      ((signOnSlot s1 c k).operatorNumber c) 0#32) = s3 := by
    rw [operatorNumber_signOnSlot held1, signOnSlot_held held1]
  change takeSignOn s1 c k = _
  unfold takeSignOn
  dsimp only
  rw [offered, held1]
  rfl

/-- Settles O12. -/
theorem signOffTaken : Obligations.SignOffTaken := by
  intro c r s s1
  have answered {u : State} (takes : signOff c r s1 = taken u []) :
      exec (.signOff c r) s = .next (answeredOk c r [] u) :=
    exec_taken (l := []) rfl rfl rfl takes
  constructor
  · intro k op s2 s3 s4 service signed held
    refine answered ?_
    have signed1 : (s1.desk c).signedOn = some k := by simpa [s1] using signed
    have held1 : s1.roster[k] = some op := by simpa [s1] using held
    have service1 : s1.inService = true := by simp [s1, State.inService, service]
    have offered : offer (signOffSlot s1 c k) (journalRecord (signOffSlot s1 c k) .signOff .accountable c c 0#6
        op.number 0#32) = s3 := by
      rw [signOffSlot_held held1]
    have aborted : abortIncoming s3 c op.number = s4 := by
      unfold abortIncoming s4
      cases incomingRecord s3 c <;> rfl
    unfold signOff
    rw [signed1]
    dsimp only
    rw [if_pos service1, takeSignOff, operatorNumber_of_slot signed1 held1, offered, aborted]
  · intro idle
    refine answered ?_
    unfold signOff
    rcases idle with configuring | nobody
    · have idle : s1.inService = false := by simp [s1, State.inService, configuring]
      rw [idle]
      cases (s1.desk c).signedOn <;> rfl
    · have nobody1 : (s1.desk c).signedOn = none := by simpa [s1] using nobody
      rw [nobody1]

end Sys2Proof.Proofs
end

section
/-! Re-evaluation and the end of an escalation (R4, R117). -/

namespace Sys2Proof.Machine

variable (s : State) (a b : AreaNo)

theorem attendance_setAttendance (t : Attendance) :
    ((s.setAttendance a t).area b).attendance = if a = b then t else (s.area b).attendance := by
  rw [State.setAttendance, State.area_setArea]
  split <;> rfl

theorem anyEscalated_iff : s.anyEscalated = true ↔ ∃ b u, (s.area b).attendance = .escalated u := by
  simp only [State.anyEscalated, any_areas_iff, Area.isEscalated_iff]

/-- R117: an ESCALATED area made ATTENDED, with the scopes and events that follow, before point 508 is told. -/
def afterEscalation : State :=
  setFlag .presence (setFlag .presence (recomputeScopes (s.setAttendance a .attended)) 0) (s.area a).owner

theorem attendance_afterEscalation :
    ((afterEscalation s a).area b).attendance = if a = b then .attended else (s.area b).attendance :=
  attendance_setAttendance s a b .attended

theorem endEscalation_eq :
    endEscalation s a = if (afterEscalation s a).anyEscalated then afterEscalation s a
      else systemPoint (afterEscalation s a) 508 .normal := by
  have owner : ((recomputeScopes (s.setAttendance a .attended)).area a).owner = (s.area a).owner :=
    (setAttendance_kept s a .attended).owner a
  unfold endEscalation
  dsimp only
  rw [owner]
  rfl

theorem attendance_endEscalation :
    ((endEscalation s a).area b).attendance = if a = b then .attended else (s.area b).attendance := by
  rw [← attendance_afterEscalation, endEscalation_eq]
  split
  · rfl
  · exact (systemPoint_seq ..).attendance b

theorem anyEscalated_afterEscalation :
    (afterEscalation s a).anyEscalated = true ↔ ∃ b u, b ≠ a ∧ (s.area b).attendance = .escalated u := by
  rw [anyEscalated_iff]
  refine exists_congr fun b => exists_congr fun u => ?_
  rw [attendance_afterEscalation]
  split
  · next same => exact ⟨fun h => by simp at h, fun h => absurd same.symm h.1⟩
  · next other => exact ⟨fun h => ⟨Ne.symm other, h⟩, And.right⟩

/-- R4: the rows of the table. -/
theorem attendance_reevaluate :
    ((reevaluate s a).area b).attendance = if a = b then
      (match (s.area a).attendance, attendanceTest s a with
        | .attended, true => .attended
        | .attended, false => .unattended s.time.runClock
        | .unattended _, true => .attended
        | .unattended t, false => .unattended t
        | .escalated _, true => .attended
        | .escalated t, false => .escalated t)
      else (s.area b).attendance := by
  unfold reevaluate
  split
  case h_1 held test => rw [attendance_setAttendance, held, test]
  case h_2 held test => rw [attendance_setAttendance, held, test]
  case h_3 held test => rw [attendance_endEscalation, held, test]
  case h_4 =>
    split
    · next same =>
      subst same
      cases held : (s.area a).attendance <;> cases test : attendanceTest s a <;> simp_all
    · rfl

end Sys2Proof.Machine

namespace Sys2Proof.Proofs

open Sys2Proof.Machine

/-- Settles O13. -/
theorem reevaluationFollowsTheTable : Obligations.ReevaluationFollowsTheTable := by
  intro s a
  refine ⟨(attendance_reevaluate s a a).trans (if_pos rfl),
    fun b different => (attendance_reevaluate s a b).trans (if_neg (Ne.symm different)), ?_⟩
  intro since escalated test s1 s2
  have ends : reevaluate s a = endEscalation s a := by
    unfold reevaluate
    rw [escalated, test]
  rw [ends, endEscalation_eq]
  refine ⟨fun left => if_pos ((anyEscalated_afterEscalation s a).mpr left), fun last => if_neg fun left => ?_⟩
  obtain ⟨b, u, different, other⟩ := (anyEscalated_afterEscalation s a).mp left
  exact last b u different other

end Sys2Proof.Proofs
end

section
/-! Acknowledgement requests: R16 to R18, R36 to R38, R40 and R122. -/

namespace Sys2Proof.Machine

/-! ## Ack standing and the outcome of an acknowledgement (R17, R18) -/

variable {s : State} {c : Console} {a : AreaNo} {p : PointNo}

/-- R17: the area's record is REVIEWING. -/
def State.reviewedBy (s : State) (a : AreaNo) (n : RecordNo) : Prop :=
  (s.area a).record = some n ∧ (s.record n).phase = .reviewing

theorem ackStanding_reviewed {n : RecordNo} (h : s.reviewedBy a n) :
    ackStanding s c a = if (s.record n).outConsole = some c ∨ (s.record n).inConsole = some c then .party else .none := by
  obtain ⟨held, reviewing⟩ := h
  unfold ackStanding
  simp [held, reviewing]

theorem ackStanding_unreviewed (h : ∀ n, ¬ s.reviewedBy a n) :
    ackStanding s c a = if (s.area a).owner = c then .sole else .none := by
  unfold ackStanding
  dsimp only
  split
  · rfl
  · next n held => exact if_neg fun reviewing => h n ⟨held, reviewing⟩

/-- R17: the three standings. -/
theorem ackStanding_iff (s : State) (c : Console) (a : AreaNo) :
    (ackStanding s c a = .sole ↔ (s.area a).owner = c ∧ ∀ n, ¬ s.reviewedBy a n) ∧
    (ackStanding s c a = .party ↔
      ∃ n, s.reviewedBy a n ∧ ((s.record n).outConsole = some c ∨ (s.record n).inConsole = some c)) := by
  by_cases reviewed : ∃ n, s.reviewedBy a n
  · obtain ⟨n, byRecord⟩ := reviewed
    have only (m : RecordNo) (h : s.reviewedBy a m) : m = n := Option.some.inj (h.1.symm.trans byRecord.1)
    rw [ackStanding_reviewed byRecord]
    constructor
    · exact ⟨fun h => (by split at h <;> cases h), fun h => absurd byRecord (h.2 n)⟩
    · constructor
      · intro h
        split at h
        · next party => exact ⟨n, byRecord, party⟩
        · cases h
      · rintro ⟨m, byM, party⟩
        rw [only m byM] at party
        exact if_pos party
  · have unreviewed : ∀ n, ¬ s.reviewedBy a n := fun n h => reviewed ⟨n, h⟩
    rw [ackStanding_unreviewed unreviewed]
    constructor
    · split
      · next own => exact ⟨fun _ => ⟨own, unreviewed⟩, fun _ => rfl⟩
      · next own => exact ⟨fun h => (nomatch h), fun h => absurd h.1 own⟩
    · exact ⟨fun h => (by split at h <;> cases h), fun ⟨n, h, _⟩ => absurd h (unreviewed n)⟩

/-- R18: the point is of priority 1, its area has BOTH_P1, and the console is one of two parties there. -/
def State.jointAt (s : State) (p : PointNo) (c : Console) : Prop :=
  ackStanding s c (s.point p).area = .party ∧ (s.area (s.point p).area).jointAck = .bothP1 ∧ (s.point p).priority = .p1

theorem ackResult_of_not_joint (h : ¬ s.jointAt p c) : ackResult s p c = .completed := by
  have : ¬ ((ackStanding s c (s.point p).area = .party && (s.area (s.point p).area).jointAck = .bothP1 &&
      (s.point p).priority = .p1) = true) := by
    simpa [State.jointAt, and_assoc] using h
  exact if_neg this

theorem ackResult_of_joint (h : s.jointAt p c) :
    ackResult s p c = if c ∈ (s.point p).ackSet then .passed else if (s.point p).ackSet = [] then .recorded
      else .completed := by
  obtain ⟨party, both, first⟩ := h
  unfold ackResult
  simp [party, both, first]

/-- R18: an acknowledgement completes but for a first or repeated one between two parties. -/
theorem ackResult_completed (h : ¬ s.jointAt p c ∨ ((s.point p).ackSet ≠ [] ∧ c ∉ (s.point p).ackSet)) :
    ackResult s p c = .completed := by
  by_cases joint : s.jointAt p c
  · obtain ⟨some', other⟩ := h.resolve_left (not_not_intro joint)
    rw [ackResult_of_joint joint, if_neg other, if_neg some']
  · exact ackResult_of_not_joint joint

theorem ackResult_recorded (joint : s.jointAt p c) (first : (s.point p).ackSet = []) : ackResult s p c = .recorded := by
  rw [ackResult_of_joint joint, first]
  rfl

theorem ackResult_passed (joint : s.jointAt p c) (again : c ∈ (s.point p).ackSet) : ackResult s p c = .passed := by
  rw [ackResult_of_joint joint, if_pos again]

theorem settleAck_completed (h : ackResult s p c = .completed) :
    settleAck s p c = completeAck s p c (s.operatorNumber c) false := by
  rw [settleAck, h]

theorem settleAck_recorded (h : ackResult s p c = .recorded) : settleAck s p c = partialAck s p c := by
  rw [settleAck, h]

/-! ## The requests' checks (R16, R36) -/

theorem firstFailure_fails {b : Bool} {st : Status} {l : List Check} :
    firstFailure (fails b st :: l) = if b then some ⟨st, []⟩ else firstFailure l := rfl

/-- R167, R168: a request that fails a check is answered with its status and an empty record. -/
theorem exec_refused {i : Instr} {r : Request} {body : State → State × Reply} {l : List Check}
    {k : State × Reply} {st : Status} (arm : exec i s = request c r body s)
    (spelled : body (frameArrives c s) = decided (frameArrives c s) l k) (fail : firstFailure l = some ⟨st, []⟩) :
    exec i s = .next (settle ((frameArrives c s).setPort c { (frameArrives c s).port c with
      response := ⟨st, r.tag, 0#8, 0#8, 0#8, 0#8, 0#8⟩, result := [] })) :=
  arm.trans (request_refused spelled fail)

theorem firstFailure_append_some {l m : List Check} {rp : Reply} (h : firstFailure l = some rp) :
    firstFailure (l ++ m) = some rp := by
  induction l with
  | nil => cases h
  | cons x l ih =>
    obtain ⟨b, k⟩ := x
    cases b with
    | true => exact h
    | false => exact ih h

theorem firstFailure_append_pass {l m : List Check} (h : firstFailure l = none) : firstFailure (l ++ m) = firstFailure m := by
  induction l with
  | nil => rfl
  | cons x l ih =>
    obtain ⟨b, k⟩ := x
    cases b with
    | true => cases h
    | false => exact ih h

/-- R16: the first tests of ACK_POINT, of the console and of the override. -/
theorem ackPointConsole_pass {override : Bool} (ready : s.operatorReady c)
    (lead : override = true → c = 0 ∧ s.supervisorAt 0 = true) :
    firstFailure (ackChecks s c ++ overrideChecks s c override) = none := by
  rw [firstFailure_append_pass (ackChecks_pass ready), overrideChecks]
  cases override with
  | false => simp
  | true =>
    obtain ⟨rfl, supervisor⟩ := lead rfl
    simp [supervisor]

/-- R36: past the tests of the console and the override, the tests of the point decide. -/
theorem ackPointChecks_point {n : Nat} {override : Bool} (ready : s.operatorReady c)
    (lead : override = true → c = 0 ∧ s.supervisorAt 0 = true) (named : n = p.val) :
    firstFailure (ackPointChecks s c n override) = firstFailure
      [ fails (!(s.point p).configured) .badOperand
      , fails (!override && ackStanding s c (s.point p).area == .none) .noAuthority
      , fails (!(s.point p).unacknowledged) .state
      , fails (!override && ackResult s p c == .passed) .state ] := by
  have inRange : decide (511 < n) = false := decide_lt_false (by omega)
  have point : pointOf n = p := pointOf_eq named
  rw [ackPointChecks, firstFailure_append_pass (ackPointConsole_pass ready lead), firstFailure_fails, inRange, point]
  rfl

theorem ackPoint_takes {override : Bool} {n : Nat} {r : Request} (num : num16 r.b3 r.b4 = n) (flag : r.b5.getLsbD 0 = override) :
    ackPoint c r s = decided s (ackPointChecks s c n override) (takeAckPoint s c (pointOf n) override) := by
  rw [← num, ← flag]
  rfl

end Sys2Proof.Machine
end

section
/-! The acknowledgement requests taken and refused: R16, R36 and R37. -/

namespace Sys2Proof.Machine

theorem takeAckPoint_plain {s u : State} {c : Console} {p : PointNo} {out : AckResult} {code : List Byte}
    (result : ackResult s p c = out) (settled : settleAck s p c = u) (coded : byte1 out.code = code) :
    takeAckPoint s c p false = taken u (byte2 p ++ code ++ byte1 (u.point p).state.code) := by
  rw [← settled, ← coded, ← result]
  rfl

end Sys2Proof.Machine

namespace Sys2Proof.Proofs

open Sys2Proof.Machine

/-- Settles O15. -/
theorem ackPointTaken : Obligations.AckPointTaken := by
  intro c r s p s1 q joint completed ready named configured unacknowledged
  have ready1 : s1.operatorReady c := frameArrives_operatorReady ready c
  have waiting : (s1.point p).unacknowledged = true := (Point.unacknowledged_iff _).mpr unacknowledged
  have shape : (s1.point p).configured = true := configured
  have point : pointOf (num16 r.b3 r.b4) = p := pointOf_eq named
  constructor
  · intro noFlag standing
    have answered {u : State} {out : AckResult} {code : List Byte} (res : ackResult s1 p c = out)
        (settled : settleAck s1 p c = u) (coded : byte1 out.code = code) (counts : out ≠ .passed) :
        exec (.ackPoint c r) s = .next (answeredOk c r (byte2 p ++ code ++ byte1 (u.point p).state.code) u) := by
      have stands : ackStanding s1 c (s1.point p).area ≠ .none := standing
      have pass : firstFailure (ackPointChecks s1 c (num16 r.b3 r.b4) false) = none := by
        rw [ackPointChecks_point ready1 (by simp) named]
        simp [shape, waiting, stands, res, counts]
      refine exec_taken rfl (ackPoint_takes rfl noFlag) pass ?_
      rw [point]
      exact takeAckPoint_plain res settled coded
    refine ⟨fun whole => ?_, fun first => ?_⟩
    · have res : ackResult s1 p c = .completed := ackResult_completed whole
      exact answered res (settleAck_completed res) rfl (by simp)
    · have res : ackResult s1 p c = .recorded := ackResult_recorded first.1 first.2
      exact answered res (settleAck_recorded res) rfl (by simp)
  · rintro flag rfl supervisor
    have supervisor1 : s1.supervisorAt 0 = true := (frameArrives_supervisorAt 0 0 s).trans supervisor
    have pass : firstFailure (ackPointChecks s1 0 (num16 r.b3 r.b4) true) = none := by
      rw [ackPointChecks_point ready1 (fun _ => ⟨rfl, supervisor1⟩) named]
      simp [shape, waiting]
    refine exec_taken rfl (ackPoint_takes rfl flag) pass ?_
    rw [point]
    rfl

/-- Settles O16. -/
theorem ackRefusals : Obligations.AckRefusals := by
  intro c r s p s1 q refused
  have mode1 : s1.mode = s.mode := frameArrives_mode c s
  have ready1 (h : s.operatorReady c) : s1.operatorReady c := frameArrives_operatorReady h c
  have pointRefused {st : Status} (h : firstFailure (ackPointChecks s1 c (num16 r.b3 r.b4) (r.b5.getLsbD 0)) =
      some ⟨st, []⟩) : exec (.ackPoint c r) s = .next (refused st) := exec_refused rfl rfl h
  have areaRefused {st : Status} (h : firstFailure (ackChecks s1 c ++ [fails (decide (23 < r.b3.toNat)) .badOperand,
      fails (ackStanding s1 c (areaOf r.b3.toNat) == .none) .noAuthority]) = some ⟨st, []⟩) :
      exec (.ackArea c r) s = .next (refused st) := exec_refused rfl rfl h
  have allRefused {st : Status} (h : firstFailure (ackChecks s1 c) = some ⟨st, []⟩) :
      exec (.ackPoint c r) s = .next (refused st) ∧ exec (.ackArea c r) s = .next (refused st) ∧
        exec (.ackAll c r) s = .next (refused st) :=
    ⟨pointRefused (firstFailure_append_some (firstFailure_append_some h)), areaRefused (firstFailure_append_some h),
      exec_refused rfl rfl h⟩
  have lead_of (h : r.b5.getLsbD 0 = false ∨ (c = 0 ∧ s.supervisorAt 0 = true)) (flag : r.b5.getLsbD 0 = true) :
      c = 0 ∧ s1.supervisorAt 0 = true := by
    obtain ⟨lead, supervisor⟩ := h.resolve_left (by simp [flag])
    exact ⟨lead, (frameArrives_supervisorAt c 0 s).trans supervisor⟩
  have acknowledged (h : q.state = .normal ∨ q.state = .standing ∨ q.state = .shelved) :
      (s1.point p).unacknowledged = false := by
    change q.unacknowledged = false
    rcases h with h | h | h <;> simp [Point.unacknowledged, h]
  refine ⟨fun mode => allRefused ?_, fun mode nobody => allRefused ?_, fun mode trainee => allRefused ?_, ?override,
    ?number, ?point, ?area, ?standing⟩
  · simp [ackChecks, needService, firstFailure_fails, State.configuring, mode1, mode]
  · simp [ackChecks, needService, needOperator, firstFailure_fails, State.configuring, mode,
      (frameArrives_nobodyAt c c s).trans nobody, s1]
  · have somebody : s1.nobodyAt c = false := by
      have : s1.traineeAt c = true := (frameArrives_traineeAt c c s).trans trainee
      unfold State.traineeAt at this
      unfold State.nobodyAt
      cases e : s1.operatorAt c <;> simp_all
    simp [ackChecks, needService, needOperator, firstFailure_fails, State.configuring, mode, somebody,
      (frameArrives_traineeAt c c s).trans trainee, s1]
  case override =>
    intro ready flag
    have pass := ackChecks_pass (ready1 ready)
    refine ⟨fun other => pointRefused ?_, fun lead nobody => pointRefused ?_,
      fun lead supervisor named configured quiet => pointRefused ?_⟩
    · refine firstFailure_append_some ((firstFailure_append_pass pass).trans ?_)
      simp [overrideChecks, firstFailure_fails, flag, other]
    · refine firstFailure_append_some ((firstFailure_append_pass pass).trans ?_)
      subst lead
      simp [overrideChecks, firstFailure_fails, flag, s1, nobody]
    · have shape : (s1.point p).configured = true := configured
      rw [ackPointChecks_point (ready1 ready) (lead_of (.inr ⟨lead, supervisor⟩)) named]
      simp [firstFailure_fails, shape, acknowledged quiet, flag]
  case number =>
    intro ready flag
    have pass := ackPointConsole_pass (ready1 ready) (lead_of flag)
    refine ⟨fun beyond => pointRefused ((firstFailure_append_pass pass).trans ?_), fun named bare => pointRefused ?_⟩
    · rw [firstFailure_fails, if_pos (decide_eq_true (by omega))]
    · have shape : (s1.point p).configured = false := bare
      rw [ackPointChecks_point (ready1 ready) (lead_of flag) named]
      simp [firstFailure_fails, shape]
  case point =>
    intro ready named flag configured
    have shape : (s1.point p).configured = true := configured
    have tests : firstFailure (ackPointChecks s1 c (num16 r.b3 r.b4) (r.b5.getLsbD 0)) = _ :=
      ackPointChecks_point (ready1 ready) (lead_of (.inl flag)) named
    rw [flag] at tests
    refine ⟨fun none => pointRefused ?_, fun some quiet => pointRefused ?_,
      fun party both first again => pointRefused ?_⟩ <;> rw [flag, tests]
    · have noStanding : ackStanding s1 c (s1.point p).area = .none := none
      simp [firstFailure_fails, shape, noStanding]
    · have standing : ackStanding s1 c (s1.point p).area ≠ .none := some
      simp [firstFailure_fails, shape, standing, acknowledged quiet]
    · have standing : ackStanding s1 c (s1.point p).area = .party := party
      have passed : ackResult s1 p c = .passed := ackResult_passed ⟨party, both, first⟩ again
      cases (s1.point p).unacknowledged <;> simp [firstFailure_fails, shape, standing, passed]
  case area =>
    intro ready
    have pass := ackChecks_pass (ready1 ready)
    refine ⟨fun beyond => areaRefused ((firstFailure_append_pass pass).trans ?_),
      fun a named none => areaRefused ((firstFailure_append_pass pass).trans ?_)⟩
    · rw [firstFailure_fails, if_pos (decide_eq_true (by omega))]
    · rw [areaOf_eq named, firstFailure_fails, decide_lt_false (by omega), none]
      rfl
  case standing =>
    intro t d a reviewing sole party
    obtain ⟨isSole, isParty⟩ := ackStanding_iff t d a
    refine ⟨isSole, isParty, ?_⟩
    constructor
    · intro none
      exact ⟨fun h => (nomatch none.symm.trans (isSole.mpr h)), fun h => (nomatch none.symm.trans (isParty.mpr h))⟩
    · rintro ⟨notSole, notParty⟩
      cases stands : ackStanding t d a with
      | sole => exact absurd (isSole.mp stands) notSole
      | party => exact absurd (isParty.mp stands) notParty
      | none => rfl

end Sys2Proof.Proofs
end

section
/-! The visits of ACK_AREA, ACK_ALL and the ACK button: R18, R37, R38, R40 and R122. -/

namespace Sys2Proof.Machine

variable {s : State} {c : Console}

/-- R37: the points visited, in ascending number. -/
theorem ackVisits_eq (s : State) (f : AreaNo → Bool) :
    ackVisits s f = (List.finRange 512).filter fun p =>
      (s.point p).configured && (s.point p).unacknowledged && f (s.point p).area :=
  (filter_points s fun _ q => q.configured && q.unacknowledged && f q.area).symm

theorem visitAck_over {t : AckTally} {p : PointNo} (h : (t.state.point p).unacknowledged = false) :
    visitAck c t p = t := by
  rw [visitAck, h]
  rfl

theorem visitAck_of {t : AckTally} {p : PointNo} (h : (t.state.point p).unacknowledged = true) :
    visitAck c t p = match ackResult t.state p c with
      | .completed => { t with state := settleAck t.state p c, completed := t.completed + 1 }
      | .recorded => { t with state := settleAck t.state p c, recorded := t.recorded + 1 }
      | .passed => t :=
  if_pos h

theorem visitAck_completed {t : AckTally} {p : PointNo} (h : (t.state.point p).unacknowledged = true)
    (result : ackResult t.state p c = .completed) :
    visitAck c t p = ⟨completeAck t.state p c (t.state.operatorNumber c) false, t.completed + 1, t.recorded⟩ := by
  rw [visitAck_of h, result, settleAck_completed result]

theorem visitAck_recorded {t : AckTally} {p : PointNo} (h : (t.state.point p).unacknowledged = true)
    (result : ackResult t.state p c = .recorded) :
    visitAck c t p = ⟨partialAck t.state p c, t.completed, t.recorded + 1⟩ := by
  rw [visitAck_of h, result, settleAck_recorded result]

theorem visitAck_passed {t : AckTally} {p : PointNo} (h : (t.state.point p).unacknowledged = true)
    (result : ackResult t.state p c = .passed) : visitAck c t p = t := by
  rw [visitAck_of h, result]

theorem trainee_somebody (h : s.traineeAt c = true) : s.nobodyAt c = false := by
  unfold State.traineeAt at h
  unfold State.nobodyAt
  cases e : s.operatorAt c <;> simp_all

theorem exec_deskAckPress (due : lineDue s c .ack .pressed = true) :
    exec (.deskAckPress c) s = .next (settle (ackPress (debounce s c .ack .pressed) c)) :=
  congrArg event (if_pos due)

theorem debounce_somebody (d : Console) (b : Button) (l : Level) :
    (debounce s d b l).nobodyAt c = s.nobodyAt c ∧ (debounce s d b l).traineeAt c = s.traineeAt c := ⟨rfl, rfl⟩

end Sys2Proof.Machine

namespace Sys2Proof.Proofs

open Sys2Proof.Machine

/-- Settles O17. -/
theorem ackAreaAllAndPress : Obligations.AckAreaAllAndPress := by
  intro c r s s1 tally
  have tally_eq (t : State) (f : AreaNo → Bool) : ackPoints t c f = tally t f := by
    rw [ackPoints, ackVisits_eq]
    rfl
  refine ⟨fun v p => ?visit, fun a ready named standing => ?area, fun ready => ?all, fun due => ?press⟩
  case visit =>
    intro q joint
    refine ⟨fun notRaised notReturned => visitAck_over ?_, fun waits => ?_⟩
    · rw [Bool.eq_false_iff, ne_eq, Point.unacknowledged_iff]
      exact fun h => h.elim notRaised notReturned
    · have waiting : (v.state.point p).unacknowledged = true := (Point.unacknowledged_iff _).mpr waits
      exact ⟨fun whole => visitAck_completed waiting (ackResult_completed whole),
        fun first => visitAck_recorded waiting (ackResult_recorded first.1 first.2),
        fun again => visitAck_passed waiting (ackResult_passed again.1 again.2)⟩
  case area =>
    have area : areaOf r.b3.toNat = a := areaOf_eq named
    have pass : firstFailure (ackChecks s1 c ++ [fails (decide (23 < r.b3.toNat)) .badOperand,
        fails (ackStanding s1 c (areaOf r.b3.toNat) == .none) .noAuthority]) = none := by
      rw [firstFailure_append_pass (ackChecks_pass (frameArrives_operatorReady ready c)), area]
      simp [standing]
      omega
    refine exec_taken rfl rfl pass ?_
    rw [area, tally_eq]
    rfl
  case all =>
    refine exec_taken rfl rfl (ackChecks_pass (frameArrives_operatorReady ready c)) ?_
    rw [ackAllFrom, tally_eq]
    rfl
  case press =>
    intro s2
    have debounced : debounce s c .ack .pressed = s2 := rfl
    rw [exec_deskAckPress due, debounced]
    refine ⟨fun somebody full => ?_, fun trainee => ?_, fun nobody => ?_⟩
    · have somebody2 : s2.nobodyAt c = false := somebody
      have full2 : s2.traineeAt c = false := full
      rw [ackPress, somebody2, full2, ackAllFrom, tally_eq]
      rfl
    · have somebody2 : s2.nobodyAt c = false := trainee_somebody trainee
      have trainee2 : s2.traineeAt c = true := trainee
      rw [ackPress, somebody2, trainee2]
      rfl
    · have nobody2 : s2.nobodyAt c = true := nobody
      rw [ackPress, nobody2]
      rfl

end Sys2Proof.Proofs
end

section
/-! Partial acknowledgements, the horn demand and SILENCE, and the desk lines: R18, R20, R121, R123, R126, R129 and R136. -/

namespace Sys2Proof.Machine

variable {s : State} {c : Console}

/-! ## The horn demand (R126) -/

theorem mem_hornDemand {p : PointNo} {q : Point} :
    (p, q) ∈ hornDemand s c ↔ q = s.point p ∧ q.configured = true ∧ q.state = .raised ∧ q.quiet = false ∧
      (s.horn c).scope.getLsbD q.area = true ∧ p ∉ (s.horn c).silenced := by
  have entry : (p, q) ∈ entries s.points ↔ q = s.point p := mem_entries.trans eq_comm
  rw [hornDemand, List.mem_filter, entry]
  simp [inDemand, and_assoc]

theorem hornDemand_nodup : ((hornDemand s c).map (·.1)).Nodup := by
  rw [hornDemand, ← filter_points s (inDemand s c)]
  exact (List.nodup_finRange 512).filter _

/-- The first of a list in ascending order that passes a test is the least that does. -/
theorem find?_eq_some_iff_least {α : Type} {l : List α} {f : α → Bool} (num : α → Nat)
    (ascending : l.Pairwise fun x y => num x < num y) (whole : ∀ x, x ∈ l) (x : α) :
    l.find? f = some x ↔ f x = true ∧ ∀ y, f y = true → num x ≤ num y := by
  rw [List.find?_eq_some_iff_append]
  refine and_congr_right fun passes => ⟨?_, fun least => ?_⟩
  · rintro ⟨before, later, rfl, fail⟩ y hy
    rcases List.mem_append.mp (whole y) with m | m
    · have := fail y m
      simp [hy] at this
    · rcases List.mem_cons.mp m with rfl | m
      · exact Nat.le_refl _
      · exact Nat.le_of_lt (List.rel_of_pairwise_cons (List.pairwise_append.mp ascending).2.1 m)
  · obtain ⟨before, later, rfl⟩ := List.append_of_mem (whole x)
    refine ⟨before, later, rfl, fun y m => ?_⟩
    have lower : num y < num x := (List.pairwise_append.mp ascending).2.2 y m x (List.mem_cons_self ..)
    simp only [Bool.not_eq_true', Bool.eq_false_iff]
    exact fun hy => absurd (least y hy) (by omega)

/-- R126: of the four priorities the most urgent that a test admits. -/
theorem find_urgent (f : Priority → Bool) (pr : Priority) :
    [Priority.p1, .p2, .p3, .p4].find? f = some pr ↔ f pr = true ∧ ∀ k, f k = true → pr.number ≤ k.number :=
  find?_eq_some_iff_least Priority.number (by decide) (fun k => by cases k <;> simp) pr

theorem demandPriority_eq_some {pr : Priority} :
    demandPriority s c = some pr ↔ (∃ x ∈ hornDemand s c, x.2.priority = pr) ∧
      ∀ x ∈ hornDemand s c, pr.number ≤ x.2.priority.number := by
  have any (k : Priority) : ((hornDemand s c).any fun x => x.2.priority == k) = true ↔
      ∃ x ∈ hornDemand s c, x.2.priority = k := by simp
  rw [demandPriority, find_urgent]
  simp only [any]
  exact and_congr_right fun _ => ⟨fun h x m => h _ ⟨x, m, rfl⟩, fun h k ⟨x, m, e⟩ => e ▸ h x m⟩

theorem demandPriority_eq_none : demandPriority s c = none ↔ hornDemand s c = [] := by
  constructor
  · intro none
    refine List.eq_nil_iff_forall_not_mem.mpr fun x m => ?_
    have unfound := List.find?_eq_none.mp none x.2.priority (by cases x.2.priority <;> simp)
    simp only [List.any_eq_true, beq_iff_eq] at unfound
    exact unfound ⟨x, m, rfl⟩
  · intro empty
    rw [demandPriority, empty]
    rfl

/-! ## SILENCE (R125, R129) -/

/-- R129: the horn that a SILENCE leaves its console. -/
def silencedHorn (s : State) (c : Console) : Horn :=
  { s.horn c with silenced := addSilenced ((hornDemand s c).map (·.1)) (s.horn c).silenced, chirp := none }

theorem silencedHorn_scope : (silencedHorn s c).scope = (s.horn c).scope := by dsimp only [silencedHorn]

theorem silencedHorn_chirp : (silencedHorn s c).chirp = none := by dsimp only [silencedHorn]

theorem silenceHorn_eq : silenceHorn s c = s.setHorn c (silencedHorn s c) := rfl

theorem mem_silencedHorn {p : PointNo} :
    p ∈ (silencedHorn s c).silenced ↔ p ∈ (s.horn c).silenced ∨ p ∈ (hornDemand s c).map (·.1) := by
  simp only [silencedHorn, addSilenced, List.mem_filter, List.mem_finRange, true_and, Bool.or_eq_true,
    List.contains_iff_mem]

/-- R129: no point is left in the demand: each that was in it is now silenced. -/
theorem hornDemand_silenced : hornDemand (s.setHorn c (silencedHorn s c)) c = [] := by
  refine List.eq_nil_iff_forall_not_mem.mpr fun ⟨p, q⟩ m => ?_
  obtain ⟨point, configured, raised, loud, inScope, unsilenced⟩ := mem_hornDemand.mp m
  rw [State.horn_setHorn_same] at inScope unsilenced
  rw [mem_silencedHorn, not_or] at unsilenced
  rw [silencedHorn_scope] at inScope
  have demanded : (p, q) ∈ hornDemand s c := mem_hornDemand.mpr ⟨point, configured, raised, loud, inScope, unsilenced.1⟩
  exact unsilenced.2 (List.mem_map.mpr ⟨(p, q), demanded, rfl⟩)

/-- R126, R127: with an empty demand the demand priority is NONE and the settled horn is released. -/
theorem quiet_of_no_demand (h : hornDemand s c = []) :
    demandPriority (settle s) c = none ∧ ((settle s).horn c).out = false := by
  have none : demandPriority s c = none := demandPriority_eq_none.mpr h
  refine ⟨(demandPriority_settle s c).trans none, ?_⟩
  rw [settle_horn]
  dsimp only
  rw [hornDriven, none]
  rfl

/-! ## The other party of a partial acknowledgement (R18) -/

theorem partialAck_eq {p : PointNo} {n : RecordNo} (h : s.calm 1) (held : (s.area (s.point p).area).record = some n) :
    partialAck s p c = setFlagParty .ackPartner
      (if (s.record n).outConsole = some c then (s.record n).inConsole else (s.record n).outConsole)
      { s.putPoint p { s.point p with ackSet := c :: (s.point p).ackSet } with
        journal := s.journal.accept (journalRecord s .ackPartial .accountable p c 0#6 (s.operatorNumber c)
          (value12 (s.point p).state.code)) } := by
  have calm1 : (s.putPoint p { s.point p with ackSet := c :: (s.point p).ackSet }).calm 1 := h
  unfold partialAck
  dsimp only
  rw [offer_calm calm1, held]
  rfl

end Sys2Proof.Machine

namespace Sys2Proof.Proofs

open Sys2Proof.Machine

/-- Settles O19. -/
theorem partialAcknowledgementIsRecorded : Obligations.PartialAcknowledgementIsRecorded := by
  intro s p c other n q s1 rec1 calm held different parties
  have partner : (if (s.record n).outConsole = some c then (s.record n).inConsole else (s.record n).outConsole) =
      some other := by
    obtain ⟨out, inc⟩ | ⟨out, inc⟩ := parties
    · rw [if_pos out, inc]
    · rw [out, if_neg (by simp [different])]
  rw [partialAck_eq calm held, partner]
  rfl

/-- Settles O20. -/
theorem silenceQuietsTheConsole : Obligations.SilenceQuietsTheConsole := by
  intro c r s silencedBy s1 s2
  have silenced (t : State) : silencedBy (silencedHorn t c) t := ⟨silencedHorn_scope, silencedHorn_chirp, fun p => mem_silencedHorn⟩
  refine ⟨hornDemand_nodup, fun p q => mem_hornDemand, demandPriority_eq_none, fun pr => demandPriority_eq_some,
    fun service => ⟨silencedHorn s1 c, _, silenced s1, rfl, ?_⟩, fun due => ⟨silencedHorn s2 c, _, silenced s2, rfl, ?_⟩⟩
  · refine ⟨exec_taken rfl rfl (needService_pass ((frameArrives_mode c s).trans service)) rfl, ?_⟩
    exact quiet_of_no_demand hornDemand_silenced
  · exact ⟨congrArg event (if_pos due), quiet_of_no_demand hornDemand_silenced⟩

/-- Settles O22. -/
theorem deskLinesAndLampTest : Obligations.DeskLinesAndLampTest := by
  intro c r b l s s1 x
  refine ⟨?_, fun changed => congrArg event (if_neg changed), fun due => ?_, fun due => congrArg event (if_pos due),
    fun other due => congrArg event (if_pos ?_), fun service => ?_⟩
  · simp [lineDue, State.inService, and_assoc, x]
  · refine (congrArg event (if_pos due)).trans ?_
    change event { s.setDeskLine c .test { s.deskLine c .test with debounced := .pressed } with
      lampTest := s.lampTest.press } = _
    cases h : s.lampTest <;> rfl
  · rw [Bool.and_eq_true]
    exact ⟨bne_iff_ne.mpr other, due⟩
  · refine exec_taken rfl rfl (needService_pass ((frameArrives_mode c s).trans service)) ?_
    change taken { s1 with lampTest := s1.lampTest.asked } (byte1 s1.lampTest.asked.code) = _
    cases s1.lampTest <;> rfl

end Sys2Proof.Proofs
end

section
/-! The alarm list and its cursors: R41 to R44. -/

namespace Sys2Proof.Machine

/-! ## The order of keys (R41) -/

theorem ListKey.before_iff (k l : ListKey) : k.before l = true ↔ k.priority < l.priority ∨
    (k.priority = l.priority ∧ (k.serial < l.serial ∨ (k.serial = l.serial ∧ k.point < l.point))) := by
  simp [ListKey.before]

theorem ListKey.before_asymm {k l : ListKey} (h : k.before l = true) : l.before k = false := by
  rw [ListKey.before_iff] at h
  rw [Bool.eq_false_iff, ne_eq, ListKey.before_iff]
  omega

theorem firstByKey_mem {l : List (PointNo × Point)} {x : PointNo × Point} (h : firstByKey l = some x) : x ∈ l := by
  induction l generalizing x with
  | nil => cases h
  | cons z l ih =>
    unfold firstByKey at h
    split at h
    · cases h
      exact List.mem_cons_self
    · next y found =>
      split at h
      · cases h
        exact List.mem_cons_of_mem _ (ih found)
      · cases h
        exact List.mem_cons_self

/-- R44: an entry whose key stands before every other's is the one found. -/
theorem firstByKey_least {l : List (PointNo × Point)} {x : PointNo × Point} (m : x ∈ l)
    (least : ∀ y ∈ l, y = x ∨ (keyOf x.1 x.2).before (keyOf y.1 y.2) = true) : firstByKey l = some x := by
  have notBefore {y : PointNo × Point} (h : y = x ∨ (keyOf x.1 x.2).before (keyOf y.1 y.2) = true) :
      y = x ∨ (keyOf y.1 y.2).before (keyOf x.1 x.2) = false := h.imp_right ListKey.before_asymm
  induction l with
  | nil => cases m
  | cons z l ih =>
    have rest : ∀ y ∈ l, y = x ∨ (keyOf x.1 x.2).before (keyOf y.1 y.2) = true :=
      fun y h => least y (List.mem_cons_of_mem _ h)
    unfold firstByKey
    by_cases first : z = x
    · subst first
      split
      · rfl
      · next y found =>
        rcases notBefore (rest y (firstByKey_mem found)) with rfl | later
        · exact ite_self _
        · rw [later]
          rfl
    · rw [ih ((List.mem_cons.mp m).resolve_left (Ne.symm first)) rest]
      exact if_pos ((least z List.mem_cons_self).resolve_left first)

/-! ## What a scope admits (R41, R43) -/

theorem Point.listed_iff (q : Point) :
    q.listed = true ↔ q.configured = true ∧ (q.state = .raised ∨ q.state = .returned ∨ q.state = .standing) := by
  simp only [Point.listed, Bool.and_eq_true, Bool.or_eq_true, Point.unacknowledged_iff, beq_iff_eq, or_assoc]

/-- R43: the numbers of the entries in scope. -/
def pointsIn (s : State) (c : Console) (sc : Scope) : List PointNo := (listedIn s c sc).map (·.1)

theorem pointsIn_eq (s : State) (c : Console) (sc : Scope) :
    pointsIn s c sc = (List.finRange 512).filter fun p => (s.point p).listed && admits s c sc (s.point p) :=
  (filter_points s fun _ q => q.listed && admits s c sc q).symm

theorem mem_listedIn {s : State} {c : Console} {sc : Scope} {p : PointNo} {q : Point} :
    (p, q) ∈ listedIn s c sc ↔ s.point p = q ∧ q.listed = true ∧ admits s c sc q = true := by
  have entry : (p, q) ∈ entries s.points ↔ s.point p = q := mem_entries
  rw [listedIn, List.mem_filter, entry, Bool.and_eq_true]

/-- R44: the entries that LIST_NEXT chooses from. -/
theorem mem_candidates {s : State} {c : Console} {cur : Cursor} {p : PointNo} {q : Point} :
    (p, q) ∈ (listedIn s c cur.scope).filter (fun x => aboveCursor cur (keyOf x.1 x.2)) ↔
      s.point p = q ∧ (q.listed = true ∧ admits s c cur.scope q = true) ∧ aboveCursor cur (keyOf p q) = true := by
  rw [List.mem_filter, mem_listedIn, and_assoc]

theorem nextEntry_least {s : State} {c : Console} {cur : Cursor} {p : PointNo}
    (listed : (s.point p).listed = true) (admitted : admits s c cur.scope (s.point p) = true)
    (above : aboveCursor cur (keyOf p (s.point p)) = true)
    (least : ∀ p', (s.point p').listed = true → admits s c cur.scope (s.point p') = true →
      aboveCursor cur (keyOf p' (s.point p')) = true →
      p' = p ∨ (keyOf p (s.point p)).before (keyOf p' (s.point p')) = true) :
    nextEntry s c cur = some (p, s.point p) := by
  refine firstByKey_least (mem_candidates.mpr ⟨rfl, ⟨listed, admitted⟩, above⟩) fun ⟨p', q'⟩ m => ?_
  obtain ⟨rfl, ⟨listed', admitted'⟩, above'⟩ := mem_candidates.mp m
  exact (least p' listed' admitted' above').imp_left fun e => by rw [e]

theorem nextEntry_none {s : State} {c : Console} {cur : Cursor}
    (nothing : ∀ p, (s.point p).listed = true → admits s c cur.scope (s.point p) = true →
      aboveCursor cur (keyOf p (s.point p)) = false) : nextEntry s c cur = none := by
  have empty : (listedIn s c cur.scope).filter (fun x => aboveCursor cur (keyOf x.1 x.2)) = [] := by
    refine List.eq_nil_iff_forall_not_mem.mpr fun ⟨p, q⟩ m => ?_
    obtain ⟨rfl, ⟨listed, admitted⟩, above⟩ := mem_candidates.mp m
    rw [nothing p listed admitted] at above
    cases above
  rw [nextEntry, empty]
  rfl

theorem takeNext_found {s : State} {c : Console} {p : PointNo}
    (h : nextEntry s c (s.port c).cursor = some (p, s.point p)) :
    takeNext s c = taken (s.setPort c { s.port c with cursor := .atKey (s.port c).cursor.scope (keyOf p (s.point p)) })
      (entryBytes c p (s.point p)) := by
  unfold takeNext
  dsimp only
  rw [h]

theorem takeNext_end {s : State} {c : Console} (h : nextEntry s c (s.port c).cursor = none) :
    takeNext s c = (s, ⟨.endOfList, []⟩) := by
  unfold takeNext
  dsimp only
  rw [h]

end Sys2Proof.Machine

namespace Sys2Proof.Proofs

open Sys2Proof.Machine

/-- Settles O21. -/
theorem alarmListIsReadInKeyOrder : Obligations.AlarmListIsReadInKeyOrder := by
  intro c r s sc s1 cur admitted key above service
  have service1 : s1.configuring = false := by simp [s1, State.configuring, service]
  have admitted_iff (sc : Scope) (p : PointNo) :
      admitted sc p ↔ (s1.point p).listed = true ∧ admits s1 c sc (s1.point p) = true := by
    rw [Point.listed_iff, and_assoc]
    refine and_congr_right fun _ => and_congr_right fun _ => ?_
    cases sc <;> simp [admits]
  have above_iff (p : PointNo) : above p ↔ aboveCursor cur (keyOf p (s1.point p)) = true := by
    simp only [above, aboveCursor]
    cases cur <;> simp [key, keyOf]
  have pass (opened : cur ≠ .closed) :
      firstFailure [needService s1, fails ((s1.port c).cursor == .closed) .state] = none := by
    have : ((s1.port c).cursor == .closed) = false := beq_eq_false_iff_ne.mpr opened
    simp [needService, service1, this]
  refine ⟨fun scope => ⟨pointsIn s1 c sc, ?_, fun p => ?_, ?_⟩, fun opened => ⟨fun p isIn isAbove least => ?_, fun nothing => ?_⟩⟩
  · rw [pointsIn_eq]
    exact (List.nodup_finRange 512).filter _
  · rw [pointsIn_eq, admitted_iff]
    simp
  · refine exec_taken rfl rfl (l := [needService s1, fails (scopeOf r.b3.toNat r.b4.toNat).isNone .badOperand]) ?_ ?_
    · simp [needService, service1, scope]
    · rw [scope, pointsIn, List.length_map]
      rfl
  · obtain ⟨listed, inScope⟩ := (admitted_iff cur.scope p).mp isIn
    have found : nextEntry s1 c (s1.port c).cursor = some (p, s1.point p) :=
      nextEntry_least listed inScope ((above_iff p).mp isAbove) fun p' listed' inScope' above' =>
        least p' ((admitted_iff cur.scope p').mpr ⟨listed', inScope'⟩) ((above_iff p').mpr above')
    exact exec_taken rfl rfl (pass opened) (takeNext_found found)
  · have found : nextEntry s1 c (s1.port c).cursor = none := nextEntry_none fun p listed inScope =>
      Bool.eq_false_iff.mpr fun isAbove =>
        nothing p ((admitted_iff cur.scope p).mpr ⟨listed, inScope⟩) ((above_iff p).mpr isAbove)
    exact exec_end rfl rfl (pass opened) (takeNext_end found)

end Sys2Proof.Proofs
end

section
/-! What flags, horn scopes and shelf places are after the operations that write them: R56, R98, R124 and R169. -/

namespace Sys2Proof.Machine

variable {s : State}

/-! ## Event flags (R169) -/

/-- R169: a port with a flag set. -/
def Port.raised (p : Port) (f : EventFlag) : Port := { p with flags := p.flags ||| f.bit }

theorem Port.raised_raised (p : Port) (f : EventFlag) : (p.raised f).raised f = p.raised f := by
  simp [Port.raised, BitVec.or_assoc]

theorem port_setFlag (f : EventFlag) (s : State) (c d : Console) :
    (setFlag f s c).port d = if c = d then (s.port d).raised f else s.port d := by
  rw [setFlag, State.port_setPort]
  split
  · next same => subst same; rfl
  · rfl

theorem port_setFlagAt (f : EventFlag) (l : List Console) (s : State) (d : Console) :
    (setFlagAt f l s).port d = if d ∈ l then (s.port d).raised f else s.port d := by
  induction l generalizing s with
  | nil => rfl
  | cons c l ih =>
    change (setFlagAt f l (setFlag f s c)).port d = _
    rw [ih, port_setFlag]
    by_cases here : c = d
    · simp [here, Port.raised_raised]
    · simp [here, Ne.symm here]

/-- R169: setting flags writes the ports alone. -/
theorem setFlagAt_eq (f : EventFlag) (l : List Console) (s : State) :
    setFlagAt f l s = { s with ports := (setFlagAt f l s).ports } := by
  induction l generalizing s with
  | nil => rfl
  | cons c l ih => exact ih (setFlag f s c)

theorem port_eq_of_flags {p q : Port} (h : p = q ∨ ∃ f, p = q.raised f) : { p with flags := q.flags } = q := by
  rcases h with rfl | ⟨f, rfl⟩ <;> rfl

/-- A set of bits is not empty when it holds one. -/
theorem ne_zero_iff_getLsbD {w : Nat} (x : BitVec w) : x ≠ 0#w ↔ ∃ k, x.getLsbD k = true := by
  constructor
  · intro some'
    by_contra none
    refine some' (BitVec.eq_of_getLsbD_eq fun k _ => ?_)
    simpa using fun h => none ⟨k, h⟩
  · rintro ⟨k, set⟩ rfl
    simp at set

/-! ## Who is told of the checklist (R98) -/

/-- R98: what each notify mode asks for. -/
theorem toldOfChange_word {watch : ItemSet} {was now : HoRecord} :
    toldOfChange .word watch was now = true ↔ ¬ (was.confirmed = was.presented ↔ now.confirmed = now.presented) := by
  unfold toldOfChange HoRecord.complete
  rw [bne_iff_ne, ne_eq, Bool.eq_iff_iff, beq_iff_eq, beq_iff_eq]

theorem toldOfChange_items {watch : ItemSet} {was now : HoRecord} :
    toldOfChange .items watch was now = true ↔ ∃ k, watch.getLsbD k = true ∧
      (was.presented.getLsbD k ≠ now.presented.getLsbD k ∨ was.confirmed.getLsbD k ≠ now.confirmed.getLsbD k) := by
  simp only [toldOfChange, bne_iff_ne, ne_zero_iff_getLsbD]
  simp

/-- R98: both parties, each by its own mode and watch set. -/
theorem checklistEvents_eq {was now : HoRecord} {x y : Console} (reviewing : now.phase = .reviewing)
    (outgoing : now.outConsole = some x) (incoming : now.inConsole = some y) (s : State) :
    checklistEvents was now s = setFlagAt .checklist
      ((if toldOfChange now.outNotify now.outWatch was now then [x] else []) ++
        (if toldOfChange now.inNotify now.inWatch was now then [y] else [])) s := by
  unfold checklistEvents
  rw [if_pos reviewing, outgoing, incoming]
  cases toldOfChange now.outNotify now.outWatch was now <;> cases toldOfChange now.inNotify now.inWatch was now <;> rfl

/-! ## Horn scopes (R124) -/

theorem horn_recomputeScopes (s : State) (c : Console) :
    (recomputeScopes s).horn c = { s.horn c with scope := hornScope s c } :=
  table4_getElem _ c

theorem areasWhere_getLsbD (f : AreaNo → Bool) (a : AreaNo) : (areasWhere f).getLsbD a = f a := by
  rw [areasWhere, BitVec.getLsbD_ofFnLE, dif_pos a.isLt]

theorem hornScope_getLsbD (s : State) (c : Console) (a : AreaNo) :
    (hornScope s c).getLsbD a = true ↔ (s.area a).owner = c ∨
      (∃ n : RecordNo, (s.area a).record = some n ∧ (s.record n).phase = .reviewing ∧ (s.record n).inConsole = some c) ∨
      (c = 0 ∧ ∃ t, (s.area a).attendance = .escalated t) := by
  rw [hornScope, areasWhere_getLsbD]
  simp only [Bool.or_eq_true, Bool.and_eq_true, beq_iff_eq, State.incomingIn_iff, Area.isEscalated_iff, or_assoc]

/-! ## The place of a shelf entry (R56) -/

theorem placeEntry_split (s : State) (e : ShelfEntry) (l : List ShelfEntry)
    (ordered : l.Pairwise fun x y => remaining s x.expiry ≤ remaining s y.expiry) :
    ∃ before after, l = before ++ after ∧ placeEntry s e l = before ++ e :: after ∧
      (∀ x ∈ before, remaining s x.expiry ≤ remaining s e.expiry) ∧
      (∀ x ∈ after, remaining s e.expiry < remaining s x.expiry) := by
  induction l with
  | nil => exact ⟨[], [], rfl, rfl, by simp, by simp⟩
  | cons x l ih =>
    obtain ⟨least, rest⟩ := List.pairwise_cons.mp ordered
    by_cases earlier : remaining s x.expiry ≤ remaining s e.expiry
    · obtain ⟨before, after, rfl, placed, lower, higher⟩ := ih rest
      refine ⟨x :: before, after, rfl, ?_, ?_, higher⟩
      · rw [placeEntry, if_pos earlier, placed]
        rfl
      · exact List.forall_mem_cons.mpr ⟨earlier, lower⟩
    · have later := Nat.lt_of_not_le earlier
      refine ⟨[], x :: l, rfl, if_neg earlier, by simp, ?_⟩
      exact List.forall_mem_cons.mpr ⟨later, fun y m => Nat.lt_of_lt_of_le later (least y m)⟩

end Sys2Proof.Machine

namespace Sys2Proof.Proofs

open Sys2Proof.Machine

/-- Settles O24: between what stands before the entry and after it the order is kept. -/
theorem shelfEntriesStandInOrder : Obligations.ShelfEntriesStandInOrder := by
  intro s e l left ordered
  obtain ⟨before, after, rfl, placed, lower, higher⟩ := placeEntry_split s e l ordered
  refine ⟨before, after, rfl, placed, lower, higher, ?_⟩
  obtain ⟨orderedBefore, orderedAfter, across⟩ := List.pairwise_append.mp ordered
  rw [placed, List.pairwise_append, List.pairwise_cons]
  refine ⟨orderedBefore, ⟨fun y m => Nat.le_of_lt (higher y m), orderedAfter⟩, fun x mx y my => ?_⟩
  rcases List.mem_cons.mp my with rfl | my
  · exact lower x mx
  · exact across x mx y my

/-- Settles O27. -/
theorem hornScopesFollowTheirRule : Obligations.HornScopesFollowTheirRule := by
  intro s c
  rw [horn_recomputeScopes]
  exact ⟨hornScope_getLsbD s c, rfl, rfl⟩

/-- Settles O33. -/
theorem checklistEventsFollowTheNotifyModes : Obligations.ChecklistEventsFollowTheNotifyModes := by
  intro s was now x y told t reviewing outgoing incoming
  have told_iff (m : Notify) (watch : ItemSet) : toldOfChange m watch was now = true ↔ told m watch := by
    cases m
    · exact toldOfChange_word
    · exact toldOfChange_items
  obtain ⟨l, events, named⟩ : ∃ l : List Console, t = setFlagAt .checklist l s ∧ ∀ d, d ∈ l ↔
      (d = x ∧ told now.outNotify now.outWatch) ∨ (d = y ∧ told now.inNotify now.inWatch) := by
    refine ⟨_, checklistEvents_eq reviewing outgoing incoming s, fun d => ?_⟩
    rw [List.mem_append, ← told_iff, ← told_iff]
    refine or_congr ?_ ?_ <;> split <;> simp_all
  rw [events]
  refine ⟨by rw [setFlagAt_eq], fun d => ?_⟩
  rw [port_setFlagAt, ← named]
  refine ⟨?_, fun asked => ?_, fun unasked => ?_⟩
  · split <;> rfl
  · rw [if_pos asked]; rfl
  · rw [if_neg unasked]

end Sys2Proof.Proofs
end

section
/-! The early ends and the checklist of a handover: R86, R92, R93, R95, R96 and R99. -/

namespace Sys2Proof.Machine

variable {s : State} {c : Console} {n : Nat} {k : RecordNo}

/-- R86: the console tests of a request that names a record in range. -/
theorem hoChecks_pass (ready : s.operatorReady c) (inRange : n ≤ 3) : firstFailure (hoChecks s c n) = none := by
  obtain ⟨service, somebody, noTrainee⟩ := ready
  simp [hoChecks, needService, needOperator, State.configuring, service, somebody, noTrainee]
  omega

theorem hoChecks_then (ready : s.operatorReady c) (named : n = k.val) (l : List Check) :
    firstFailure (hoChecks s c n ++ l) = firstFailure l :=
  firstFailure_append_pass (hoChecks_pass ready (by omega))

theorem needOutgoing_pass {r : RecordNo} (h : (s.record r).outConsole = some c) :
    needOutgoing s c r = fails false .noAuthority := by
  rw [needOutgoing, h]
  simp

theorem needIncoming_pass {r : RecordNo} (h : (s.record r).inConsole = some c) :
    needIncoming s c r = fails false .noAuthority := by
  rw [needIncoming, h]
  simp

theorem needPhase_pass {r : RecordNo} {ph : Phase} (h : (s.record r).phase = ph) : needPhase s r ph = fails false .state := by
  rw [needPhase, h]
  simp

theorem HoRecord.live_iff (h : HoRecord) : h.live = true ↔ h.phase ≠ .free := bne_iff_ne

end Sys2Proof.Machine

namespace Sys2Proof.Proofs

open Sys2Proof.Machine

/-- Settles O31. -/
theorem handoverDeclinedOrWithdrawn : Obligations.HandoverDeclinedOrWithdrawn := by
  intro c n r s s1 declined withdrawn ready named
  have ready1 : s1.operatorReady c := frameArrives_operatorReady ready c
  have record : recordOf r.b3.toNat = n := recordOf_eq named
  constructor
  · intro incoming offered
    have pass : firstFailure (hoChecks s1 c r.b3.toNat ++ [needIncoming s1 c (recordOf r.b3.toNat),
        needPhase s1 (recordOf r.b3.toNat) .offered]) = none := by
      rw [hoChecks_then ready1 named, record, needIncoming_pass incoming, needPhase_pass offered]
      rfl
    refine exec_taken rfl rfl pass ?_
    rw [record, frameArrives_operatorNumber]
  · intro outgoing live
    have alive : (!(s1.record n).live) = false := by rw [(HoRecord.live_iff _).mpr live]; rfl
    have pass : firstFailure (hoChecks s1 c r.b3.toNat ++ [needOutgoing s1 c (recordOf r.b3.toNat),
        fails (!(s1.record (recordOf r.b3.toNat)).live) .state]) = none := by
      rw [hoChecks_then ready1 named, record, needOutgoing_pass outgoing, alive]
      rfl
    refine exec_taken rfl rfl pass ?_
    rw [record, frameArrives_operatorNumber]

/-- Settles O32. -/
theorem reviewIsWorkedThrough : Obligations.ReviewIsWorkedThrough := by
  intro c i n r s s1 h put tell mode items hp hc ready reviewing incoming
  have ready1 : s1.operatorReady c := frameArrives_operatorReady ready c
  have tells (b : Bool) (t : State) : (if b then setFlagParty .handover h.inConsole t else t) = tell b t := by
    rw [incoming]
    rfl
  refine ⟨fun named outgoing => ?present, fun named same presented => ?confirm, fun named outgoing => ?release⟩
  case present =>
    have packed : packedRecord r.b3 = n.val := named
    have record : recordOf (packedRecord r.b3) = n := recordOf_eq packed
    have pass : firstFailure (hoChecks s1 c (packedRecord r.b3) ++ [needOutgoing s1 c (recordOf (packedRecord r.b3)),
        needPhase s1 (recordOf (packedRecord r.b3)) .reviewing]) = none := by
      rw [hoChecks_then ready1 packed, record, needOutgoing_pass outgoing, needPhase_pass reviewing]
      rfl
    refine exec_taken rfl rfl pass ?_
    rw [record, ← tells]
    rfl
  case confirm =>
    subst same
    have packed : packedRecord r.b3 = n.val := named
    have record : recordOf (packedRecord r.b3) = n := recordOf_eq packed
    have presented1 : items &&& ~~~(s1.record n).presented = 0#16 := presented
    have pass : firstFailure (hoChecks s1 i (packedRecord r.b3) ++ [needIncoming s1 i (recordOf (packedRecord r.b3)),
        needPhase s1 (recordOf (packedRecord r.b3)) .reviewing,
        fails (items &&& ~~~(s1.record (recordOf (packedRecord r.b3))).presented != 0#16) .badOperand]) = none := by
      rw [hoChecks_then ready1 packed, record, needIncoming_pass incoming, needPhase_pass reviewing, presented1]
      rfl
    refine exec_taken rfl rfl pass ?_
    rw [record]
    rfl
  case release =>
    have record : recordOf r.b3.toNat = n := recordOf_eq named
    have pass : firstFailure (releaseChecks s1 c r.b3.toNat) = none := by
      rw [releaseChecks, hoChecks_then ready1 named, record, needOutgoing_pass outgoing, needPhase_pass reviewing]
      rfl
    have given (b : Bool) : takeRelease s1 n b =
        taken (tell (h.release != b) (put { h with release := b })) (boolByte b) := by
      rw [← tells]
      change taken (if h.release = b then put { h with release := b }
        else setFlagParty .handover h.inConsole (put { h with release := b })) (boolByte b) = _
      cases h.release <;> cases b <;> rfl
    constructor
    · refine exec_taken rfl rfl pass ?_
      rw [record]
      exact (given true).trans (by cases h.release <;> rfl)
    · refine exec_taken rfl rfl pass ?_
      rw [record]
      exact (given false).trans (by cases h.release <;> rfl)

end Sys2Proof.Proofs
end

section
/-! Takeover, offer, acceptance and SET_TIME: R22, R23, R87, R88, R90, R91 and R154. -/

namespace Sys2Proof.Machine

variable {s : State} {c : Console}

theorem members_eq (set : AreaSet) : members set = (List.finRange 24).filter fun a : AreaNo => set.getLsbD a := rfl

theorem mem_members_iff {set : AreaSet} {a : AreaNo} : a ∈ members set ↔ set.getLsbD a = true := mem_members

theorem any_members {set : AreaSet} {f : AreaNo → Bool} :
    (members set).any f = true ↔ ∃ a : AreaNo, set.getLsbD a = true ∧ f a = true := by
  simp only [List.any_eq_true, mem_members_iff]

theorem any_members_false {set : AreaSet} {f : AreaNo → Bool} :
    (members set).any f = false ↔ ∀ a : AreaNo, set.getLsbD a = true → f a = false := by
  simp only [List.any_eq_false, mem_members_iff, Bool.not_eq_true]

theorem countAreas_members (set : AreaSet) (f : AreaNo → Bool) :
    countAreas f (members set) = ((List.finRange 24).filter fun a : AreaNo => set.getLsbD a && f a).length := by
  rw [countAreas, members_eq, List.filter_filter]
  exact congrArg List.length (List.filter_congr fun a _ => Bool.and_comm _ _)

/-! ## The first record of the four (R83, R88) -/

/-- R88: the lowest-numbered of the four records that passes a test. -/
theorem find_allFour {f : Fin 4 → Bool} (n : Fin 4) :
    allFour.find? f = some n ↔ f n = true ∧ ∀ m, f m = true → n ≤ m :=
  find?_eq_some_iff_least Fin.val (by decide) (by decide) n

theorem freeRecord_eq {n : RecordNo} (free : (s.record n).phase = .free)
    (lower : ∀ m, m < n → (s.record m).phase ≠ .free) : freeRecord s = some n := by
  refine (find_allFour n).mpr ⟨by simp [free], fun m mFree => ?_⟩
  by_contra below
  exact lower m (Fin.not_le.mp below) (beq_iff_eq.mp mFree)

theorem incomingRecord_none (h : ∀ m, (s.record m).phase ≠ .free → (s.record m).inConsole ≠ some c) :
    incomingRecord s c = none := by
  refine List.find?_eq_none.mpr fun m _ => ?_
  rw [Bool.and_eq_true, HoRecord.live_iff, beq_iff_eq]
  exact fun both => h m both.1 both.2

theorem outgoingRecord_none (h : ∀ m, (s.record m).phase ≠ .free → (s.record m).outConsole ≠ some c) :
    outgoingRecord s c = none := by
  refine List.find?_eq_none.mpr fun m _ => ?_
  rw [Bool.and_eq_true, HoRecord.live_iff, beq_iff_eq]
  exact fun both => h m both.1 both.2

/-! ## TAKEOVER (R22, R23) -/

theorem giveAreas_get (set : AreaSet) (o : Console) (s : State) (a : AreaNo) :
    (giveAreas set o s).areas[a] = if set.getLsbD a then { s.area a with owner := o } else s.area a :=
  area_giveAreas set o s a

theorem isAttended_iff (e : Area) : e.isAttended = true ↔ e.attendance = .attended := by
  unfold Area.isAttended
  split <;> simp_all

theorem takeoverChecks_pass {set : AreaSet} (ready : s.supervisorReady) (some' : set ≠ 0#24)
    (free : ∀ a : AreaNo, set.getLsbD a = true → (s.area a).attendance ≠ .attended ∧ (s.area a).record = none) :
    firstFailure (takeoverChecks s 0 set) = none := by
  refine (firstFailure_append_pass (stopChecks_pass ready)).trans ?_
  have attended : (members set).any (fun a => (s.area a).isAttended) = false :=
    any_members_false.mpr fun a m => by rw [Bool.eq_false_iff, ne_eq, isAttended_iff]; exact (free a m).1
  have held : (members set).any (fun a => (s.area a).record.isSome) = false :=
    any_members_false.mpr fun a m => by rw [(free a m).2]; rfl
  simp [some', attended, held]

/-- R23: the consoles that lose an area, none of which is console 0. -/
theorem losers_eq (s : State) (set : AreaSet) :
    (allFour.filter fun c => c != 0 && (members set).any fun a => (s.area a).owner == c) =
      [1, 2, 3].filter fun c => decide (∃ a : AreaNo, set.getLsbD a = true ∧ (s.area a).owner = c) := by
  refine (List.filter_cons_of_neg (by simp)).trans ?_
  refine List.filter_congr fun c m => ?_
  have lead : (c != 0) = true := by revert m; revert c; decide
  rw [lead, Bool.true_and, Bool.eq_iff_iff, any_members, decide_eq_true_eq]
  simp only [beq_iff_eq]

end Sys2Proof.Machine

namespace Sys2Proof.Proofs

open Sys2Proof.Machine

/-- Settles O28. -/
theorem takeoverTaken : Obligations.TakeoverTaken := by
  intro r s s1 set named lost moved done ready some' free
  refine ⟨(giveAreas set 0 s1).areas, giveAreas_get set 0 s1, ?_⟩
  refine exec_taken rfl rfl (takeoverChecks_pass (frameArrives_supervisorReady ready 0) some' free) ?_
  have operator : (recomputeScopes (giveAreas set 0 s1)).operatorNumber 0 = s.operatorNumber 0 := by
    rw [giveAreas_eq]
    exact frameArrives_operatorNumber 0 0 s
  change takeTakeover s1 set = _
  unfold takeTakeover
  dsimp only
  rw [losers_eq, countAreas_members, operator, giveAreas_eq]
  rfl

end Sys2Proof.Proofs
end

section
/-! Offer, acceptance and SET_TIME: R87, R88, R90, R91 and R154. -/

namespace Sys2Proof.Machine

variable {s : State} {c : Console}

theorem nameRecord_get (set : AreaSet) (n : RecordNo) (s : State) (a : AreaNo) :
    (nameRecord set n s).areas[a] = if set.getLsbD a then { s.area a with record := some n } else s.area a :=
  area_nameRecord set n s a

/-- R87: an offer that passes its tests. -/
theorem offerChecks_pass {k : Nat} {i : Console} {set : AreaSet} (ready : s.operatorReady c) (named : k = i.val)
    (other : i ≠ c) (some' : set ≠ 0#24) (freeOf : incomingRecord s i = none)
    (own : ∀ a : AreaNo, set.getLsbD a = true → (s.area a).owner = c ∧ (s.area a).record = none)
    (room : (freeRecord s).isNone = false) (outOf : outgoingRecord s c = none) :
    firstFailure (offerChecks s c k set) = none := by
  rw [offerChecks, List.append_assoc, consoleOf_eq named]
  refine (firstFailure_append_pass (ackChecks_pass ready)).trans ?_
  have owned : (members set).any (fun a => (s.area a).owner != c) = false :=
    any_members_false.mpr fun a m => by simp [(own a m).1]
  have held : (members set).any (fun a => (s.area a).record.isSome) = false :=
    any_members_false.mpr fun a m => by rw [(own a m).2]; rfl
  have inRange : decide (3 < k) = false := decide_lt_false (by omega)
  simp only [inRange, owned, held, freeOf, outOf, room, firstFailure_fails_cons]
  simp [other, some']

theorem acceptChecks_pass {k : Nat} {n : RecordNo} (ready : s.operatorReady c) (named : k = n.val)
    (incoming : (s.record n).inConsole = some c) (offered : (s.record n).phase = .offered)
    (qualified : ∀ a : AreaNo, (s.record n).areas.getLsbD a = true → s.qualifiedAt c a = true) :
    firstFailure (acceptChecks s c k) = none := by
  have unqualified : (members (s.record n).areas).any (fun a => !s.qualifiedAt c a) = false :=
    any_members_false.mpr fun a m => by rw [qualified a m]; rfl
  rw [acceptChecks, recordOf_eq named, hoChecks_then ready named, needIncoming_pass incoming, needPhase_pass offered,
    unqualified]
  rfl

theorem anyFlood_eq (s : State) (set : AreaSet) :
    anyFlood s set = decide (∃ a : AreaNo, set.getLsbD a = true ∧ (s.area a).flood = .flood) := by
  rw [Bool.eq_iff_iff, anyFlood, any_members, decide_eq_true_eq]
  simp only [beq_iff_eq]

end Sys2Proof.Machine

namespace Sys2Proof.Proofs

open Sys2Proof.Machine

/-- Settles O29. -/
theorem handoverOffered : Obligations.HandoverOffered := by
  intro c i n r s s1 set named h done ready incoming other some' live own free lower
  have found : freeRecord s1 = some n := freeRecord_eq free lower
  refine ⟨(nameRecord set n (s1.setRecord n h)).areas, nameRecord_get set n (s1.setRecord n h), ?_⟩
  have pass : firstFailure (offerChecks s1 c r.b3.toNat set) = none :=
    offerChecks_pass (frameArrives_operatorReady ready c) incoming other some'
      (incomingRecord_none fun m alive => (live m alive).1) own (by rw [found]; rfl)
      (outgoingRecord_none fun m alive => (live m alive).2)
  refine exec_taken rfl rfl pass ?_
  have operator : s1.operatorNumber c = s.operatorNumber c := frameArrives_operatorNumber c c s
  have record : offeredRecord s1 c i set = h := by
    rw [offeredRecord, operator]
    rfl
  change takeOffer s1 c (consoleOf r.b3.toNat) set ((freeRecord s1).getD 0) = _
  rw [consoleOf_eq incoming, found, Option.getD_some, takeOffer, record, operator, nameRecord_eq]
  rfl

/-- Settles O30. -/
theorem handoverAccepted : Obligations.HandoverAccepted := by
  intro c o n r s s1 h flooded time h1 s2 s3 s4 ready named incoming outgoing offered qualified
  refine exec_taken rfl rfl (acceptChecks_pass (frameArrives_operatorReady ready c) named incoming offered qualified) ?_
  have operator : s1.operatorNumber c = s.operatorNumber c := frameArrives_operatorNumber c c s
  have record : acceptedRecord s1 c h = h1 := by
    rw [acceptedRecord, operator, anyFlood_eq]
  have operator2 : (recomputeScopes (s1.setRecord n h1)).operatorNumber c = s.operatorNumber c := operator
  change takeAccept s1 c (recordOf r.b3.toNat) = _
  rw [recordOf_eq named, takeAccept, acceptRecord, record, operator2]
  have out1 : h1.outConsole = some o := outgoing
  have in1 : h1.inConsole = some c := incoming
  rw [out1, in1]
  rfl

/-- Settles O36. -/
theorem setTimeTaken : Obligations.SetTimeTaken := by
  intro r s s1 v s2 ready
  have clock : s2.time.runClock + s2.time.offset = v := by
    change s1.time.runClock + (v - s1.time.runClock) = v
    rw [BitVec.add_comm, BitVec.sub_add_cancel]
  refine ⟨clock, exec_taken rfl rfl (stopChecks_pass (frameArrives_supervisorReady ready 0)) ?_⟩
  have stamped : journalRecord s2 .timeSet .accountable 0 0 0#6 (s1.operatorNumber 0) s1.journalClock =
      ⟨.timeSet, .accountable, v, 0#16, 0, 0#6, BitVec.ofNat 16 (s.operatorNumber 0),
        s1.time.runClock + s1.time.offset⟩ := by
    rw [← clock, ← frameArrives_operatorNumber 0 0 s]
    rfl
  change takeSetTime s1 v = _
  rw [takeSetTime]
  dsimp only
  rw [← stamped]

end Sys2Proof.Proofs
end

section
/-! HO_TAKE and HO_FORCE: R100, R101 and R105. -/

namespace Sys2Proof.Machine

variable {s : State} {c : Console}

theorem firstFailure_notReady {b : Bool} {x : Byte} {l : List Check} :
    firstFailure (notReady b x :: l) = if b then some ⟨.notReady, [x]⟩ else firstFailure l := rfl

theorem Area.gateClear_iff (e : Area) :
    e.gateClear = true ↔ (1 ≤ e.gate.val → e.unack.p1 = 0) ∧ (2 ≤ e.gate.val → e.unack.p2 = 0) := by
  unfold Area.gateClear
  split <;> next h => simp [h]

/-- R100: the gate of a record. -/
theorem gateClear_iff (s : State) (set : AreaSet) : gateClear s set = true ↔ ∀ a : AreaNo, set.getLsbD a = true →
    (1 ≤ (s.area a).gate.val → (s.area a).unack.p1 = 0) ∧ (2 ≤ (s.area a).gate.val → (s.area a).unack.p2 = 0) := by
  simp only [gateClear, List.all_eq_true, mem_members_iff, Area.gateClear_iff]

/-- R101: past the console tests the tests of the record decide. -/
theorem takeChecks_record {k : Nat} {n : RecordNo} (ready : s.operatorReady c) (named : k = n.val) :
    firstFailure (takeChecks s c k) = firstFailure
      [ fails ((s.record n).inConsole != some c) .noAuthority
      , fails ((s.record n).phase != .reviewing) .state
      , fails (s.record n).held .held
      , notReady (!(s.record n).release) 1#8
      , notReady (!((s.record n).confirmed == (s.record n).presented)) 2#8
      , notReady (!gateClear s (s.record n).areas) 3#8
      , fails ((s.record n).inOperator != some (s.operatorNumber c)) .notSignedOn ] := by
  rw [takeChecks, hoChecks_then ready named, recordOf_eq named]
  rfl

/-- R105: past the tests of the supervisor the tests of the record decide. -/
theorem forceChecks_record {k action : Nat} {n : RecordNo} (ready : s.supervisorReady) (named : k = n.val)
    (inRange : action ≤ 1) :
    firstFailure (forceChecks s 0 k action) = firstFailure
      [ fails (if action = 0 then (s.record n).phase != .reviewing else !(s.record n).live) .state
      , fails (action == 0 && (s.record n).inOperator != (s.operatorAt ((s.record n).inConsole.getD 0)).map (·.number))
          .notSignedOn
      , fails (action == 0 && (members (s.record n).areas).any fun a =>
          !s.qualifiedAt ((s.record n).inConsole.getD 0) a) .notQualified ] := by
  obtain ⟨service, supervisor⟩ := ready
  have numbers : (decide (3 < k) || decide (1 < action)) = false := by
    rw [decide_lt_false (by omega), decide_lt_false inRange]
    rfl
  have pass : firstFailure ([needService s, fails (decide (3 < k) || decide (1 < action)) .badOperand] ++
      needSupervisor s 0) = none := by
    simp only [numbers]
    simp [needService, needSupervisor, needLead, State.configuring, service, supervisor, somebody_of_supervisor supervisor]
  rw [forceChecks, recordOf_eq named]
  exact firstFailure_append_pass pass

/-- R101: the refusals of HO_TAKE in their order, and none of them. -/
theorem takeChecks_outcomes {k : Nat} {n : RecordNo} (ready : s.operatorReady c) (named : k = n.val) :
    ((s.record n).inConsole ≠ some c → firstFailure (takeChecks s c k) = some ⟨.noAuthority, []⟩) ∧
    ((s.record n).inConsole = some c →
      ((s.record n).phase ≠ .reviewing → firstFailure (takeChecks s c k) = some ⟨.state, []⟩) ∧
      ((s.record n).phase = .reviewing →
        ((s.record n).held = true → firstFailure (takeChecks s c k) = some ⟨.held, []⟩) ∧
        ((s.record n).held = false →
          ((s.record n).release = false → firstFailure (takeChecks s c k) = some ⟨.notReady, [1#8]⟩) ∧
          ((s.record n).release = true →
            ((s.record n).confirmed ≠ (s.record n).presented →
              firstFailure (takeChecks s c k) = some ⟨.notReady, [2#8]⟩) ∧
            ((s.record n).confirmed = (s.record n).presented →
              (gateClear s (s.record n).areas = false →
                firstFailure (takeChecks s c k) = some ⟨.notReady, [3#8]⟩) ∧
              (gateClear s (s.record n).areas = true →
                ((s.record n).inOperator ≠ some (s.operatorNumber c) →
                  firstFailure (takeChecks s c k) = some ⟨.notSignedOn, []⟩) ∧
                ((s.record n).inOperator = some (s.operatorNumber c) → firstFailure (takeChecks s c k) = none))))))) := by
  rw [takeChecks_record ready named]
  refine ⟨fun other => ?_, fun incoming => ⟨fun early => ?_, fun reviewing => ⟨fun held => ?_, fun free =>
    ⟨fun bound => ?_, fun released => ⟨fun incomplete => ?_, fun complete => ⟨fun shut => ?_, fun clear =>
      ⟨fun other => ?_, fun signed => ?_⟩⟩⟩⟩⟩⟩⟩
  · simp [firstFailure_fails, other]
  · simp [firstFailure_fails, incoming, early]
  · simp [firstFailure_fails, incoming, reviewing, held]
  · simp [firstFailure_fails, firstFailure_notReady, incoming, reviewing, free, bound]
  · simp [firstFailure_fails, firstFailure_notReady, incoming, reviewing, free, released, incomplete]
  · simp [firstFailure_fails, firstFailure_notReady, incoming, reviewing, free, released, complete, shut]
  · simp [firstFailure_fails, firstFailure_notReady, incoming, reviewing, free, released, complete, clear, other]
  · simp [firstFailure_notReady, incoming, reviewing, free, released, complete, clear, signed]

theorem forceChecks_commit {k : Nat} {n : RecordNo} {i : Console} {op : Operator} (ready : s.supervisorReady)
    (named : k = n.val) (reviewing : (s.record n).phase = .reviewing) (incoming : (s.record n).inConsole = some i)
    (there : s.operatorAt i = some op) (signed : (s.record n).inOperator = some op.number)
    (qualified : ∀ a : AreaNo, (s.record n).areas.getLsbD a = true → s.qualifiedAt i a = true) :
    firstFailure (forceChecks s 0 k 0) = none := by
  have able : (members (s.record n).areas).any (fun a => !s.qualifiedAt i a) = false :=
    any_members_false.mpr fun a m => by rw [qualified a m]; rfl
  rw [forceChecks_record ready named (Nat.zero_le 1), incoming, Option.getD_some, able]
  simp [reviewing, there, signed]

theorem forceChecks_cancel {k : Nat} {n : RecordNo} (ready : s.supervisorReady) (named : k = n.val)
    (live : (s.record n).phase ≠ .free) : firstFailure (forceChecks s 0 k 1) = none := by
  rw [forceChecks_record ready named (Nat.le_refl 1)]
  simp [(HoRecord.live_iff _).mpr live]

end Sys2Proof.Machine

namespace Sys2Proof.Proofs

open Sys2Proof.Machine

/-- Settles O34. -/
theorem handoverTakenOrForced : Obligations.HandoverTakenOrForced := by
  intro c i n op r s s1 h named ended count gate refuses
  have operator : s1.operatorNumber c = s.operatorNumber c := frameArrives_operatorNumber c c s
  have gate_iff : gateClear s1 h.areas = true ↔ gate := gateClear_iff s1 h.areas
  refine ⟨fun ready number => ?refused, fun ready number incoming reviewing free released complete clear signed => ?take,
    fun ready lead number action reviewing incoming there signed qualified => ?commit,
    fun ready lead number action live => ?cancel⟩
  case refused =>
    obtain ⟨party, atParty⟩ := takeChecks_outcomes (frameArrives_operatorReady ready c) number
    rw [frameArrives_operatorNumber] at atParty
    have refused {st : Status} {record : List Byte}
        (bytes : responseOf st r.tag record = ⟨st, r.tag, record.getD 0 0#8, 0#8, 0#8, 0#8, 0#8⟩)
        (fail : firstFailure (takeChecks s1 c r.b3.toNat) = some ⟨st, record⟩) : refuses st record := by
      change exec _ s = _
      rw [← bytes]
      exact request_refused rfl fail
    refine ⟨fun other => refused rfl (party other), fun incoming early => refused rfl ((atParty incoming).1 early),
      fun incoming reviewing => ?_⟩
    obtain ⟨whenHeld, whenFree⟩ := (atParty incoming).2 reviewing
    refine ⟨fun held => refused rfl (whenHeld held), fun free bound => refused rfl ((whenFree free).1 bound),
      fun free released incomplete => refused rfl (((whenFree free).2 released).1 incomplete),
      fun free released complete shut => refused rfl ((((whenFree free).2 released).2 complete).1 ?_),
      fun free released complete clear other =>
        refused rfl (((((whenFree free).2 released).2 complete).2 (gate_iff.mpr clear)).1 other)⟩
    exact Bool.eq_false_iff.mpr fun clear => shut (gate_iff.mp clear)
  case take =>
    obtain ⟨-, atParty⟩ := takeChecks_outcomes (frameArrives_operatorReady ready c) number
    rw [frameArrives_operatorNumber] at atParty
    obtain ⟨-, whenFree⟩ := (atParty incoming).2 reviewing
    have pass := ((((whenFree free).2 released).2 complete).2 (gate_iff.mpr clear)).2 signed
    refine exec_taken rfl rfl pass ?_
    rw [recordOf_eq number, frameArrives_operatorNumber]
  case commit =>
    subst lead
    have acts : r.b4.toNat = 0 := by rw [action]; rfl
    have pass : firstFailure (forceChecks s1 0 r.b3.toNat r.b4.toNat) = none := by
      rw [acts]
      exact forceChecks_commit (frameArrives_supervisorReady ready 0) number reviewing incoming there signed qualified
    refine exec_taken rfl rfl pass ?_
    rw [recordOf_eq number, acts, forceEnd, if_pos rfl, frameArrives_operatorNumber]
  case cancel =>
    subst lead
    have acts : r.b4.toNat = 1 := by rw [action]; rfl
    have pass : firstFailure (forceChecks s1 0 r.b3.toNat r.b4.toNat) = none := by
      rw [acts]
      exact forceChecks_cancel (frameArrives_supervisorReady ready 0) number live
    refine exec_taken rfl rfl pass ?_
    rw [recordOf_eq number, acts, forceEnd, if_neg (by decide), frameArrives_operatorNumber]

end Sys2Proof.Proofs
end

section
/-! The shelf and the first-out groups: R53, R54, R58 to R63. -/

namespace Sys2Proof.Machine

variable {s : State} {c : Console} {p : PointNo}

/-! ## The shelf -/

theorem withoutPoint_eq (p : PointNo) (l : List ShelfEntry) : withoutPoint p l = l.filter fun e => decide (e.point ≠ p) :=
  List.filter_congr fun e _ => by rw [Bool.eq_iff_iff, bne_iff_ne, decide_eq_true_eq]

/-- R151: a record's stamp is read off the clock alone. -/
theorem journalRecord_congr {t : State} (h : t.time = s.time) (kind : JournalKind) (cls : JournalClass) (subject : Nat)
    (c : Console) (x : BitVec 6) (op : Nat) (v : Word32) :
    journalRecord t kind cls subject c x op v = journalRecord s kind cls subject c x op v := by
  rw [journalRecord, State.journalClock, h]
  rfl

theorem onShelf_false (h : ∀ e ∈ s.shelf, e.point ≠ p) : onShelf s p = false :=
  Bool.eq_false_iff.mpr fun on => by
    obtain ⟨e, m, same⟩ := (onShelf_iff s p).mp on
    exact h e m same

/-- R58: a SHELVE that passes its tests. -/
theorem shelveChecks_pass {n minutes : Nat} (ready : s.operatorReady c) (named : n = p.val)
    (configured : (s.point p).configured = true) (some' : minutes ≠ 0) (own : (s.area (s.point p).area).owner = c)
    (free : (s.area (s.point p).area).record = none) (shelvable : (s.point p).shelvable = true)
    (room : s.shelf.length < 32 ∨ onShelf s p = true) : firstFailure (shelveChecks s c n minutes) = none := by
  have full : (decide (32 ≤ s.shelf.length) && !onShelf s p) = false := by
    rcases room with room | on
    · rw [decide_eq_false (by omega)]
      rfl
    · rw [on, Bool.not_true, Bool.and_false]
  have inRange : decide (511 < n) = false := decide_lt_false (by omega)
  rw [shelveChecks, pointOf_eq named]
  refine (firstFailure_append_pass (ackChecks_pass ready)).trans ?_
  simp only [inRange, configured, own, free, shelvable, full, firstFailure_fails_cons]
  simp [some']

theorem unshelveChecks_pass {n : Nat} (ready : s.operatorReady c) (named : n = p.val)
    (configured : (s.point p).configured = true) (own : (s.area (s.point p).area).owner = c)
    (on : onShelf s p = true) : firstFailure (unshelveChecks s c n) = none := by
  have inRange : decide (511 < n) = false := decide_lt_false (by omega)
  rw [unshelveChecks, pointOf_eq named]
  refine (firstFailure_append_pass (ackChecks_pass ready)).trans ?_
  simp only [inRange, configured, own, on, firstFailure_fails_cons]
  simp

theorem takeShelve_off {minutes : Nat} (off : onShelf s p = false) :
    let s2 := { s with shelf := placeEntry s (newEntry s c p minutes) (withoutPoint p s.shelf) }
    takeShelve s c p minutes = taken (offer (unsilence p (s2.setPoint p (s.point p).shelve))
      (journalRecord s .shelve .accountable p c 0#6 (s.operatorNumber c) (valueHalves minutes 0)))
      (byte2 minutes ++ byte1 s2.shelf.length) := by
  intro s2
  have stamp : (unsilence p (s2.setPoint p (s.point p).shelve)).time = s.time := by
    rw [State.setPoint_eq]
    rfl
  rw [takeShelve, off, ← journalRecord_congr stamp]
  rfl

theorem takeShelve_on {minutes : Nat} (on : onShelf s p = true) :
    let s2 := { s with shelf := placeEntry s (newEntry s c p minutes) (withoutPoint p s.shelf) }
    takeShelve s c p minutes = taken (offer s2
      (journalRecord s .shelve .accountable p c 0#6 (s.operatorNumber c) (valueHalves minutes 0)))
      (byte2 minutes ++ byte1 s2.shelf.length) := by
  intro s2
  rw [takeShelve, on]
  rfl

/-! ## A point's return from the shelf (R63) -/

/-- R63: what a return does before SHELF is set. -/
def returned (s : State) (p : PointNo) : State :=
  match (s.point p).input with
  | .active => handled p (fun off s => raisePoint off s p) s
  | .normal => toldNormal (s.setPoint p { s.point p with state := .normal }) p

theorem returned_seq (s : State) (p : PointNo) : Sequenced s (returned s p) := by
  unfold returned
  split
  · exact handled_seq p (fun off s => raisePoint off s p) (fun _ _ ho => raisePoint_seq ho ..) s
  · exact (toldNormal_seq ..).after (setPoint_seq s p _ rfl)

/-- R63: SHELF is set at the owner of the point's area, which a return leaves as it was. -/
theorem shelfReturn_eq (s : State) (p : PointNo) :
    shelfReturn s p = setFlag .shelf (returned s p) (s.area (s.point p).area).owner := by
  rw [← (returned_seq s p).owner]
  rfl

theorem takeUnshelve_eq : takeUnshelve s c p =
    taken (shelfReturn (offer { s with shelf := withoutPoint p s.shelf }
      (journalRecord s .unshelve .accountable p c 0#6 (s.operatorNumber c) 0#32)) p)
      (match ((offer { s with shelf := withoutPoint p s.shelf }
        (journalRecord s .unshelve .accountable p c 0#6 (s.operatorNumber c) 0#32)).point p).input with
        | .active => [1#8]
        | .normal => [0#8]) := by
  refine congrArg (taken _) ?_
  change byte1 (match ((offer { s with shelf := withoutPoint p s.shelf }
        (journalRecord s .unshelve .accountable p c 0#6 (s.operatorNumber c) 0#32)).point p).input with
        | .active => Annunciation.raised.code
        | .normal => Annunciation.normal.code) = _
  cases ((offer { s with shelf := withoutPoint p s.shelf }
    (journalRecord s .unshelve .accountable p c 0#6 (s.operatorNumber c) 0#32)).point p).input <;> rfl

end Sys2Proof.Machine

namespace Sys2Proof.Proofs

open Sys2Proof.Machine

/-- Settles O23. -/
theorem shelveTaken : Obligations.ShelveTaken := by
  intro c r s p s1 q minutes entry s2 done ready named configured some' own free shelvable
  have ready1 : s1.operatorReady c := frameArrives_operatorReady ready c
  have shelf : placeEntry s1 (newEntry s1 c p minutes) (withoutPoint p s1.shelf) = s2.shelf := by
    rw [withoutPoint_eq]
    rfl
  refine ⟨fun off room => ?_, fun on => ?_⟩
  · have off1 : onShelf s1 p = false := onShelf_false off
    refine exec_taken rfl rfl (shelveChecks_pass ready1 named configured some' own free shelvable (.inl room)) ?_
    rw [pointOf_eq named]
    refine (takeShelve_off (c := c) (minutes := minutes) off1).trans ?_
    dsimp only
    rw [shelf]
    rfl
  · have on1 : onShelf s1 p = true := (onShelf_iff s1 p).mpr on
    refine exec_taken rfl rfl (shelveChecks_pass ready1 named configured some' own free shelvable (.inr on1)) ?_
    rw [pointOf_eq named]
    refine (takeShelve_on (c := c) (minutes := minutes) on1).trans ?_
    dsimp only
    rw [shelf]

/-- Settles O25. -/
theorem pointsLeaveTheShelf : Obligations.PointsLeaveTheShelf := by
  intro c r s p s1 goes s2 s3 runsOut
  have goes_eq (t : State) (p : PointNo) : shelfReturn t p = goes t p := by
    rw [shelfReturn_eq]
    rfl
  refine ⟨fun ready named configured own on => ?_, fun service => ?_⟩
  · have on1 : onShelf s1 p = true := (onShelf_iff s1 p).mpr on
    refine exec_taken rfl rfl (unshelveChecks_pass (frameArrives_operatorReady ready c) named configured own on1) ?_
    rw [pointOf_eq named, takeUnshelve_eq, goes_eq, withoutPoint_eq] <;> rfl
  · have due : dueEntries s = s.shelf.takeWhile fun e => decide ((s.time.runClock - e.expiry).toNat < 2147483648) :=
      if_pos (by simp [State.inService, service])
    have runs : expireEntry = runsOut := by
      funext t e
      rw [expireEntry, withoutPoint_eq]
      exact goes_eq _ _
    change event ((dueEntries s).foldl expireEntry s) = _
    rw [due, runs]
    rfl

end Sys2Proof.Proofs
end

section
/-! Rearming a first-out group: R50, R53 and R54. -/

namespace Sys2Proof.Machine

variable {s : State} {c : Console} {g : GroupNo} {p : PointNo}

/-- R50: membership is by the group field of a configured point, group 1 the first entry. -/
theorem memberGroup_eq_some {q : Point} :
    memberGroup q = some g ↔ q.configured = true ∧ q.group.val = g.val + 1 := by
  have bound := q.group.isLt
  have zero : q.group = 0 ↔ q.group.val = 0 := Fin.ext_iff
  unfold memberGroup
  split
  · next h =>
    obtain ⟨configured, grouped⟩ := Bool.and_eq_true_iff.mp h
    rw [bne_iff_ne, ne_eq, zero] at grouped
    rw [Option.some.injEq, and_iff_right configured, Fin.ext_iff]
    change (q.group.val - 1) % 8 = g.val ↔ _
    omega
  · next h =>
    refine ⟨fun h => (nomatch h), fun ⟨configured, number⟩ => absurd ?_ h⟩
    rw [Bool.and_eq_true, bne_iff_ne, ne_eq, zero]
    exact ⟨configured, by omega⟩

theorem isMember_iff {q : Point} : isMember g q = true ↔ q.configured = true ∧ q.group.val = g.val + 1 := by
  rw [isMember, beq_iff_eq, memberGroup_eq_some]

theorem rearm_points_get (g : GroupNo) (s : State) (x : PointNo) :
    (rearm g s).points[x] = if isMember g (s.point x) then { s.point x with firstMark := none } else s.point x :=
  mapTable_getElem _ s.points x

theorem rearm_eq (g : GroupNo) (s : State) :
    rearm g s = { s with groups := s.groups.set g .armed, points := (rearm g s).points } := rfl

theorem toldNormal_ungrouped (h : memberGroup (s.point p) = none) : toldNormal s p = s := by
  unfold toldNormal
  rw [h]

theorem toldNormal_armed (grouped : memberGroup (s.point p) = some g) (armed : s.groups[g] = .armed) :
    toldNormal s p = s := by
  unfold toldNormal
  rw [grouped]
  dsimp only
  rw [armed]

/-- R53: told of a step to NORMAL in a TRIPPED group, the unit looks at every member. -/
theorem toldNormal_tripped (grouped : memberGroup (s.point p) = some g) (tripped : s.groups[g] ≠ .armed) :
    toldNormal s p = if ∀ x, isMember g (s.point x) = true → (s.point x).state = .normal then rearm g s else s := by
  have every : (s.points.toList.all fun q => !isMember g q || q.state == .normal) = true ↔
      ∀ x, isMember g (s.point x) = true → (s.point x).state = .normal := by
    rw [points_toList, List.all_map, List.all_eq_true]
    refine forall_congr' fun x => ?_
    cases h : isMember g (s.point x) <;> simp [h]
  unfold toldNormal
  rw [grouped]
  dsimp only
  cases state : s.groups[g] with
  | armed => exact absurd state tripped
  | tripped first => exact if_congr every rfl rfl

theorem markedMembers_eq (s : State) (g : GroupNo) : markedMembers s g =
    ((List.finRange 512).filter fun x => isMember g (s.point x) && (s.point x).firstMark.isSome).length := by
  rw [markedMembers, points_toList, List.filter_map, List.length_map]
  rfl

theorem rearmChecks_pass {n : Nat} {first : PointNo} (ready : s.operatorReady c) (named : n = g.val + 1)
    (tripped : s.groups[g] = .tripped first) (own : (s.area (s.point first).area).owner = c) :
    firstFailure (rearmChecks s c n) = none := by
  obtain ⟨service, somebody, noTrainee⟩ := ready
  have inRange : (n == 0 || decide (8 < n)) = false := by
    rw [decide_lt_false (by omega), Bool.or_false, beq_eq_false_iff_ne]
    omega
  have owner : firstPointOwner s g = some c := by
    rw [firstPointOwner, tripped]
    exact congrArg some own
  have entry : s.groups[groupOf n] = .tripped first :=
    (congrArg (fun k : GroupNo => s.groups[k]) (groupOf_eq named)).trans tripped
  rw [rearmChecks, inRange, entry, groupOf_eq named, owner]
  simp [needService, needOperator, State.configuring, service, somebody, noTrainee]

end Sys2Proof.Machine

namespace Sys2Proof.Proofs

open Sys2Proof.Machine

/-- Settles O26. -/
theorem rearmGroupTaken : Obligations.RearmGroupTaken := by
  intro c r s g p s1 member rearmed
  have member_iff (g : GroupNo) (x : Point) : isMember g x = true ↔ member g x := isMember_iff
  have rearms (t : State) : rearmed t (rearm g t) := by
    refine ⟨(rearm g t).points, fun x => ?_, rearm_eq g t⟩
    rw [rearm_points_get, ← member_iff]
    exact ⟨fun m => if_pos m, fun m => if_neg m⟩
  refine ⟨fun ready named tripped own => ?_, fun ungrouped => ?_, fun grouped => ⟨fun tripped normal => ?_, fun rests => ?_⟩⟩
  · refine ⟨rearm g s1, (List.finRange 512).filter fun x => isMember g (s1.point x) && (s1.point x).firstMark.isSome,
      rearms s1, (List.nodup_finRange 512).filter _, fun x => ?_, ?_⟩
    · rw [← member_iff]
      simp [Option.isSome_iff_ne_none]
    · refine exec_taken rfl rfl (rearmChecks_pass (frameArrives_operatorReady ready c) named tripped own) ?_
      rw [groupOf_eq named, ← markedMembers_eq]
  · refine toldNormal_ungrouped (Option.eq_none_iff_forall_ne_some.mpr fun g' grouped => ?_)
    exact ungrouped g' (memberGroup_eq_some.mp grouped)
  · rw [toldNormal_tripped (memberGroup_eq_some.mpr grouped) tripped]
    rw [if_pos fun x m => normal x ((member_iff g _).mp m)]
    exact rearms s
  · by_cases armed : s.groups[g] = .armed
    · exact toldNormal_armed (memberGroup_eq_some.mpr grouped) armed
    · obtain ⟨x, m, notNormal⟩ := rests.resolve_left armed
      rw [toldNormal_tripped (memberGroup_eq_some.mpr grouped) armed]
      exact if_neg fun normal => notNormal (normal x ((member_iff g _).mpr m))

end Sys2Proof.Proofs
end

section
/-! The journal's stream and its requests: R157, R158 and R161 to R163. -/

namespace Sys2Proof.Machine

variable {s : State} {j : Journal}

/-! ## The head record begins (R158) -/

/-- R158: the journal with the head record begun. -/
def Journal.headBegun (j : Journal) : Journal :=
  { j with
    unit := some .record, bytesSent := 0, unitRate := j.rate
    lineByte := if j.lineByte = .none ∧ j.ready = true then .unit else j.lineByte }

theorem begin_record (j : Journal) : j.begin .record = j.headBegun := by
  unfold Journal.begin Journal.beginAt Journal.headBegun
  cases j.lineByte <;> cases j.ready <;> rfl

theorem kick_eq (j : Journal) :
    j.kick = if j.stream = .streaming ∧ j.unit = none ∧ j.fifo ≠ [] then j.headBegun else j := by
  rw [Journal.kick, begin_record]
  exact if_congr (by simp [and_assoc]) rfl rfl

theorem Journal.lossPending_iff (j : Journal) :
    j.lossPending = true ↔ 0 < j.dropRoutine ∨ 0 < j.dropAccountable := by
  simp only [Journal.lossPending, Bool.or_eq_true, decide_eq_true_eq]

/-! ## The stream's state (R161) -/

theorem start_streaming (h : j.stream = .streaming) : j.start = j := by
  unfold Journal.start
  rw [h]

theorem start_entered (h : j.stream ≠ .streaming) :
    j.start = { j with stream := .streaming, quiet := false }.kick := by
  unfold Journal.start
  cases e : j.stream <;> simp_all

theorem stop_idle (h : j.stream = .streaming) (idle : j.unit = none) : j.stop = { j with stream := .stopped } := by
  unfold Journal.stop
  simp [h, idle]

theorem stop_busy (h : j.stream = .streaming) (busy : j.unit ≠ none) : j.stop = { j with stream := .stopping } := by
  unfold Journal.stop
  simp [h, busy]

theorem stop_still (h : j.stream ≠ .streaming) : j.stop = j := by
  unfold Journal.stop
  cases e : j.stream <;> simp_all

theorem setStream_same (h : j.stream = s.journal.stream) : setStream s j = { s with journal := j } := if_pos h

theorem setStream_changed (h : j.stream ≠ s.journal.stream) :
    setStream s j = setFlagAt .journal [0, 1, 2, 3] { s with journal := j } := if_neg h

theorem start_stream (j : Journal) : j.start.stream = .streaming := by
  by_cases h : j.stream = .streaming
  · rw [start_streaming h, h]
  · rw [start_entered h, kick_eq]
    split <;> rfl

theorem startChecks_pass (h : s.mode = .inService) : firstFailure (startChecks s 0) = none := by
  simp [startChecks, needService, needLead, State.configuring, h]

/-! ## CLEAR and RESET (R162, R163) -/

theorem cut_lineByte (j : Journal) : j.cut.lineByte =
    match j.lineByte, j.nextByte with
      | .unit, some b => .tail b
      | .tail b, _ => .tail b
      | _, _ => .none := by
  unfold Journal.cut Journal.lineOut
  cases j.lineByte <;> cases j.nextByte <;> rfl

end Sys2Proof.Machine

namespace Sys2Proof.Proofs

open Sys2Proof.Machine

/-- Settles O38. -/
theorem streamIsStartedAndStopped : Obligations.StreamIsStartedAndStopped := by
  intro r s s1 j entered first toAll
  refine ⟨fun service => ?_, fun ready => ?_⟩
  · have pass := startChecks_pass ((frameArrives_mode 0 s).trans service)
    have answer : byte1 j.start.stream.code = [1#8] := by
      rw [start_stream]
      rfl
    refine ⟨fun on => exec_taken rfl rfl pass ?_, fun off => exec_taken rfl rfl pass ?_⟩
    · change taken (setStream s1 j.start) (byte1 j.start.stream.code) = _
      rw [answer, start_streaming on, setStream_same rfl]
    · change taken (setStream s1 j.start) (byte1 j.start.stream.code) = _
      have changed : j.start.stream ≠ s1.journal.stream := by
        rw [start_stream]
        exact Ne.symm off
      have begun : j.start = if j.unit = none ∧ j.fifo ≠ [] then first else entered := by
        rw [start_entered off, kick_eq]
        exact if_congr (and_iff_right rfl) rfl rfl
      rw [answer, setStream_changed changed, begun]
  · have pass := stopChecks_pass (frameArrives_supervisorReady ready 0)
    refine ⟨fun on idle => exec_taken rfl rfl pass ?_, fun on busy => exec_taken rfl rfl pass ?_,
      fun off => exec_taken rfl rfl pass ?_⟩
    · change taken (setStream s1 j.stop) (byte1 j.stop.stream.code) = _
      rw [stop_idle on idle, setStream_changed (by change Stream.stopped ≠ j.stream; rw [on]; decide)]
      rfl
    · change taken (setStream s1 j.stop) (byte1 j.stop.stream.code) = _
      rw [stop_busy on busy, setStream_changed (by change Stream.stopping ≠ j.stream; rw [on]; decide)]
      rfl
    · change taken (setStream s1 j.stop) (byte1 j.stop.stream.code) = _
      rw [stop_still off, setStream_same rfl]

/-- Settles O39. -/
theorem journalIsClearedAndReset : Obligations.JournalIsClearedAndReset := by
  intro r s s1 j gone number cleared finished cut pending toAll ready
  have pass := stopChecks_pass (frameArrives_supervisorReady ready 0)
  have pending_iff : j.lossPending = true ↔ pending := j.lossPending_iff
  have cut_eq : j.cut = cut := by
    have byte : j.cut.lineByte = finished := by
      refine (cut_lineByte ..).trans ?_
      simp only [finished] <;> cases j.lineByte <;> cases j.nextByte <;> rfl
    change { j.cut with lineByte := j.cut.lineByte } = _
    rw [byte] <;> rfl
  refine ⟨exec_taken rfl rfl pass (congrArg (taken · _) ?_), exec_taken rfl rfl pass ?_⟩
  · change (if !gone.isEmpty && !j.lossPending then settle510 (lossChange .active { s1 with journal := cleared })
      else { s1 with journal := cleared }) = _
    refine if_congr ?_ rfl rfl
    rw [← pending_iff]
    simp
  · change taken (if j.lossPending then settle510 (lossChange .normal { s1 with journal := j.cut })
      else if j.stream = .stopped then { s1 with journal := j.cut } else toAll j.cut)
      (byte2 j.fifo.length ++ byte1 (if j.unit.isSome then j.bytesSent else 0)) = _
    have sent : (if j.unit.isSome then j.bytesSent else 0) = if j.unit = none then 0 else j.bytesSent := by
      cases j.unit <;> rfl
    rw [cut_eq, sent]
    exact congrArg (taken · _) (if_congr pending_iff rfl rfl)

end Sys2Proof.Proofs
end

section
/-! The configuration writes of the tables: R1, R9, R24, R174 and R175. -/

namespace Sys2Proof.Machine

variable {s : State}

theorem cfgChecks_pass (h : s.mode = .configuring) : firstFailure (cfgChecks s 0) = none := by
  simp [cfgChecks, needConfiguring, needLead, State.inService, h]

theorem cfgChecks_then (h : s.mode = .configuring) (l : List Check) :
    firstFailure (cfgChecks s 0 ++ l) = firstFailure l :=
  firstFailure_append_pass (cfgChecks_pass h)

theorem priorityOf_number (p : Priority) : priorityOf p.number = some p := by cases p <;> rfl

theorem roleOf_code (x : Role) : roleOf x.code = some x := by cases x <;> rfl

theorem jointAckOf_code (x : JointAck) : jointAckOf x.code = some x := by cases x <;> rfl

theorem patternKindOf_code (x : PatternKind) : patternKindOf x.code = some x := by cases x <;> rfl

theorem byte1_toNat (b : Byte) : byte1 b.toNat = [b] := by rw [byte1, BitVec.ofNat_toNat, BitVec.setWidth_eq]

/-- R24: the point that CFG_POINT writes, its operands in range. -/
theorem writtenPoint_eq {q : Point} {flags grade : Byte} {a : AreaNo} {pr : Priority} {g : Fin 9}
    (area : flags.toNat % 32 = a.val) (priority : grade.toNat / 16 = pr.number) (group : grade.toNat % 16 = g.val) :
    writtenPoint q flags grade = { q with
      configured := flags.getLsbD 7, area := a, priority := pr, group := g, shelvable := flags.getLsbD 6 } := by
  have high : priorityOf (highNibble grade) = some pr := by
    rw [highNibble, priority, priorityOf_number]
  have low : Fin.ofNat 9 (lowNibble grade) = g := by
    rw [lowNibble, group]
    exact Fin.ofNat_val_eq_self g
  rw [writtenPoint, areaOf_eq area, high, low]
  rfl

theorem cfgPointChecks_pass {n : Nat} {flags grade : Byte} {p : PointNo} {a : AreaNo} {pr : Priority} {g : Fin 9}
    (h : s.mode = .configuring) (named : n = p.val) (area : flags.toNat % 32 = a.val)
    (priority : grade.toNat / 16 = pr.number) (group : grade.toNat % 16 = g.val) :
    firstFailure (cfgPointChecks s 0 n flags grade) = none := by
  have high : (priorityOf (highNibble grade)).isNone = false := by
    rw [highNibble, priority, priorityOf_number]
    rfl
  have low : decide (8 < lowNibble grade) = false := decide_lt_false (by rw [lowNibble]; omega)
  rw [cfgPointChecks, cfgChecks_then h, high, low]
  simp only [firstFailure_fails_cons, decide_lt_false (show n ≤ 511 by omega),
    decide_lt_false (show flags.toNat % 32 ≤ 23 by omega)]
  simp

/-- R9: no other slot holds the number. -/
theorem no_duplicate {k : SlotNo} {n : Nat}
    (alone : ∀ (i : SlotNo) (op : Operator), s.roster[i] = some op → op.number = n → i = k) :
    ((entries s.roster).any fun x => x.1 != k && x.2.any (·.number == n)) = false := by
  rw [List.any_eq_false]
  rintro ⟨i, slot⟩ m found
  obtain ⟨other, holds⟩ := Bool.and_eq_true_iff.mp found
  obtain ⟨op, rfl, number⟩ := (Option.any_eq_true ..).mp holds
  exact bne_iff_ne.mp other (alone i op (mem_entries.mp m) (beq_iff_eq.mp number))

theorem cfgOperatorChecks_pass {k : Nat} {n : Nat} {slot : SlotNo} {role : Role} {number : Nat} {classes : ClassSet}
    (h : s.mode = .configuring) (named : k = slot.val) (small : n ≤ 9999) (coded : number = role.code)
    (rights : classes.getLsbD 7 = true → role = .supervisor)
    (alone : n = 0 ∨ ∀ (i : SlotNo) (op : Operator), s.roster[i] = some op → op.number = n → i = slot) :
    firstFailure (cfgOperatorChecks s 0 k n number classes) = none := by
  have unique : (n != 0 && (entries s.roster).any fun x => x.1 != slot && x.2.any (·.number == n)) = false := by
    rcases alone with rfl | alone
    · rfl
    · rw [no_duplicate alone, Bool.and_false]
  have allowed : (classes.getLsbD 7 && roleOf number != some .supervisor) = false := by
    cases seven : classes.getLsbD 7 with
    | false => rfl
    | true => rw [coded, rights seven]; rfl
  rw [cfgOperatorChecks, cfgChecks_then h, slotOf_eq named, unique, allowed, coded, roleOf_code]
  simp only [firstFailure_fails_cons, decide_lt_false (show k ≤ 63 by omega), decide_lt_false small]
  simp

end Sys2Proof.Machine

namespace Sys2Proof.Proofs

open Sys2Proof.Machine

/-- Settles O41. -/
theorem tableWrites : Obligations.TableWrites := by
  intro r s s1 mode
  have mode1 : s1.mode = .configuring := (frameArrives_mode 0 s).trans mode
  refine ⟨fun p a pr g => ?point, fun a k m g area cls ack gate => ?area, fun k role => ?operator⟩
  case point =>
    intro q named area priority group
    refine exec_taken rfl rfl (cfgPointChecks_pass mode1 named area priority group) ?_
    rw [pointOf_eq named, writtenPoint_eq area priority group, named]
    simp only [pointConfigBytes, ← List.append_assoc]
    rfl
  case area =>
    have pass : firstFailure (cfgChecks s1 0 ++ [fails (decide (23 < r.b3.toNat) || decide (6 < r.b4.toNat) ||
        (jointAckOf r.b5.toNat).isNone || decide (2 < r.b6.toNat)) .badOperand]) = none := by
      rw [cfgChecks_then mode1, ack, jointAckOf_code, decide_lt_false (by omega), decide_lt_false (by omega),
        decide_lt_false (by omega)]
      rfl
    refine exec_taken rfl rfl pass ?_
    have written : writtenArea (s1.area a) r.b4.toNat r.b5.toNat r.b6.toNat =
        { s1.area a with reqClass := k, jointAck := m, gate := g } := by
      rw [writtenArea, cls, ack, gate, jointAckOf_code]
      have class' : Fin.ofNat 7 k.val = k := Fin.ofNat_val_eq_self k
      have gate' : Fin.ofNat 3 g.val = g := Fin.ofNat_val_eq_self g
      rw [class', gate']
      rfl
    rw [areaOf_eq area, byte1_toNat, byte1_toNat, byte1_toNat]
    change taken (s1.setArea a (writtenArea (s1.area a) r.b4.toNat r.b5.toNat r.b6.toNat)) _ = _
    rw [written]
    rfl
  case operator =>
    intro n classes slot coded rights
    have named : slotOf r.b3.toNat = k := slotOf_eq slot
    have takes (op : Option Operator) (bytes : List Byte) (written : writtenOperator n role r.b7 = op)
        (laid : (op.elim (byte2 0) fun op => byte2 op.number ++ byte1 op.role.code ++ [op.classes]) = bytes) (small : n ≤ 9999)
        (alone : n = 0 ∨ ∀ (i : SlotNo) (o : Operator), s1.roster[i] = some o → o.number = n → i = k) :
        exec (.cfgOperator 0 r) s = .next (answeredOk 0 r bytes { s1 with roster := s1.roster.set k op }) := by
      refine exec_taken rfl rfl (cfgOperatorChecks_pass mode1 slot small coded rights alone) ?_
      have content : writtenOperator (num16 r.b4 r.b5) ((roleOf r.b6.toNat).getD .trainee) r.b7 = op := by
        rw [coded, roleOf_code]
        exact written
      have entry : s1.roster.set (slotOf r.b3.toNat) op = s1.roster.set k op :=
        congrArg (fun j : SlotNo => s1.roster.set j op) named
      rw [content, entry, ← laid]
      cases op <;> rfl
    refine ⟨fun zero => takes none _ ?_ rfl (by omega) (.inl zero), fun positive small alone =>
      takes (some ⟨n, role, classes, none⟩) _ ?_ ?_ small (.inr ?_)⟩
    · rw [writtenOperator, if_pos zero]
    · rw [writtenOperator, if_neg (Nat.ne_of_gt positive)]
    · change byte2 n ++ byte1 role.code ++ [classes] = byte2 n ++ [r.b6] ++ [classes]
      rw [← coded, byte1_toNat]
    · intro i o held
      exact alone i o (by rw [← frameArrives_roster 0 s]; exact held)

end Sys2Proof.Proofs
end

section
/-! The configuration writes of the settings: R68, R139, R140, R158, R175 and R176. -/

namespace Sys2Proof.Machine

variable {s : State}

theorem writeBaud_eq (s : State) (v : Nat) : writeBaud s v = if v = s.timing.fieldBaud then s else { s with
    timing := { s.timing with fieldBaud := v }, receiver := { s.receiver with framing := .searching [] } } := by
  unfold writeBaud
  split
  · next same => subst same; rfl
  · rfl

/-! ## CFG_FLOOD (R68) -/

theorem cfgFloodChecks_pass {sel a b : Nat} (h : s.mode = .configuring) (listed : sel ≤ 28)
    (range : floodOutOfRange sel a b = false) : firstFailure
      (cfgChecks s 0 ++ [fails (decide (28 < sel)) .badOperand, fails (floodOutOfRange sel a b) .badOperand]) = none := by
  rw [cfgChecks_then h, range, decide_lt_false listed]
  rfl

theorem floodOutOfRange_area {sel a b : Nat} (area : sel < 24) (some' : 1 ≤ a) (high : a ≤ 32767) (low : b ≤ 32767) :
    floodOutOfRange sel a b = false := by
  rw [floodOutOfRange, if_pos area, decide_lt_false high, decide_lt_false low, Bool.or_false, Bool.or_false,
    beq_eq_false_iff_ne]
  omega

theorem floodOutOfRange_weight {sel a b : Nat} (weight : 24 ≤ sel) (listed : sel < 28) :
    floodOutOfRange sel a b = false := by
  have other : (sel == 28) = false := beq_eq_false_iff_ne.mpr (by omega)
  rw [floodOutOfRange, if_neg (by omega), other, Bool.false_and]

theorem floodOutOfRange_shift {a b : Nat} (some' : 1 ≤ a) (high : a ≤ 10) : floodOutOfRange 28 a b = false := by
  have positive : (a == 0) = false := beq_eq_false_iff_ne.mpr (by omega)
  rw [floodOutOfRange, if_neg (by omega), positive, decide_lt_false high]
  rfl

theorem writtenFlood_weight {sel a b : Nat} (weight : 24 ≤ sel) (listed : sel < 28) :
    writtenFlood s sel a b = { s with weights := s.weights.put (weightPriority sel) (min 4095 a) } := by
  rw [writtenFlood, if_neg (by omega), if_neg (by omega)]

theorem floodConfigBytes_weight {sel a b : Nat} (weight : 24 ≤ sel) (listed : sel < 28) :
    floodConfigBytes sel a b = byte2 (min 4095 a) := by
  rw [floodConfigBytes, if_neg (by omega), if_neg (by omega)]

/-! ## CFG_BOARD (R139, R173) -/

/-- R173: the codes of three bytes, as the halves of each in turn. -/
theorem codeFields_eq (b1 b2 b3 : Byte) :
    codeFields b1 b2 b3 = [b1, b2, b3].flatMap fun b => [b.toNat / 16, b.toNat % 16] := rfl

/-- R139: codes in range, written from a place on, one after another. -/
theorem codesFold_get {codes : List Nat} (v : Vector (Fin 13) 12) (start : Nat) (k : Fin 12) (j : Nat)
    (small : ∀ d ∈ codes, d ≤ 12) (fit : start + j + codes.length ≤ 12) :
    (((codes.zip (List.range' j codes.length)).foldl
        (fun v x => v.set (Fin.ofNat 12 (start + x.2)) (Fin.ofNat 13 x.1)) v)[k]).val =
      if start + j ≤ k.val ∧ k.val < start + j + codes.length then codes.getD (k.val - (start + j)) 0 else (v[k]).val := by
  induction codes generalizing v j with
  | nil =>
    rw [if_neg (by simp only [List.length_nil]; omega)]
    rfl
  | cons d codes ih =>
    have fit' : start + j + (codes.length + 1) ≤ 12 := fit
    have lowest : (Fin.ofNat 12 (start + j)).val = start + j := Nat.mod_eq_of_lt (by omega)
    have value : (Fin.ofNat 13 d).val = d := Nat.mod_eq_of_lt (Nat.lt_succ_of_le (small d List.mem_cons_self))
    simp only [List.length_cons, List.range'_succ, List.zip_cons_cons, List.foldl_cons]
    rw [ih _ _ (fun x m => small x (List.mem_cons_of_mem _ m)) (by omega)]
    simp only [Fin.getElem_fin, Vector.getElem_set, lowest]
    rcases Nat.lt_trichotomy k.val (start + j) with before | here | after
    · rw [if_neg (by omega), if_neg (by omega), if_neg (by omega)]
    · rw [if_neg (by omega), if_pos here.symm, if_pos (by omega), value, here, Nat.sub_self]
      rfl
    · rw [if_neg (show ¬ start + j = k.val by omega)]
      by_cases within : k.val < start + j + 1 + codes.length
      · rw [if_pos (by omega), if_pos (by omega), show k.val - (start + j) = (k.val - (start + (j + 1))) + 1 by omega]
        rfl
      · rw [if_neg (by omega), if_neg (by omega)]

theorem putCodes_get {v : Vector (Fin 13) 12} {start : Nat} {codes : List Nat} (six : codes.length = 6)
    (room : start ≤ 6) (small : ∀ d ∈ codes, d ≤ 12) (k : Fin 12) :
    ((putCodes v start codes)[k]).val =
      if start ≤ k.val ∧ k.val < start + 6 then codes.getD (k.val - start) 0 else (v[k]).val := by
  have places : [0, 1, 2, 3, 4, 5] = List.range' 0 codes.length := by rw [six]; rfl
  rw [putCodes, places, codesFold_get v start k 0 small (by omega), six]
  rfl
/-- R175: a value between its bounds. -/
theorem within_eq_true {lo v hi : Nat} (low : lo ≤ v) (high : v ≤ hi) : (decide (lo ≤ v) && decide (v ≤ hi)) = true := by
  simp [low, high]

end Sys2Proof.Machine

namespace Sys2Proof.Proofs

open Sys2Proof.Machine

/-- Settles O42. -/
theorem settingWrites : Obligations.SettingWrites := by
  intro r s s1 v w m pat digits timed linked weighed drawn mode
  have mode1 : s1.mode = .configuring := (frameArrives_mode 0 s).trans mode
  have selects {k : Nat} (h : r.b3 = BitVec.ofNat 8 k) (small : k < 256 := by omega) : r.b3.toNat = k :=
    byte_eq_of_toNat h small
  have timing {k : Nat} {x : Timing} (sel : r.b3.toNat = k) (range : timingRange k v = true)
      (written : writtenTiming m k v = x) : timed x := by
    have pass : firstFailure (cfgChecks s1 0 ++ [fails (!timingRange r.b3.toNat v) .badOperand]) = none := by
      rw [cfgChecks_then mode1, sel, range]
      rfl
    refine exec_taken rfl rfl pass ?_
    rw [sel, ← written]
  have linking {k : Nat} {x : State} (sel : r.b3.toNat = k) (range : linksRange k v = true)
      (written : writtenLinks s1 k v = x) : linked x := by
    have pass : firstFailure (cfgChecks s1 0 ++ [fails (!linksRange r.b3.toNat v) .badOperand]) = none := by
      rw [cfgChecks_then mode1, sel, range]
      rfl
    refine exec_taken rfl rfl pass ?_
    rw [sel, ← written]
  have flooding {k : Nat} {x : State} {l : List Byte} (sel : r.b3.toNat = k) (listed : k ≤ 28)
      (range : floodOutOfRange k v w = false) (written : writtenFlood s1 k v w = x) (bytes : floodConfigBytes k v w = l) :
      exec (.cfgFlood 0 r) s = .next (answeredOk 0 r l x) := by
    refine exec_taken rfl rfl (cfgFloodChecks_pass mode1 (by omega) (by rw [sel]; exact range)) ?_
    rw [sel, ← written, ← bytes]
  have weighing {k : Nat} {x : PerPriority} (sel : r.b3.toNat = k) (weight : 24 ≤ k) (listed : k < 28)
      (written : s1.weights.put (weightPriority k) (min 4095 v) = x) : weighed x := by
    refine flooding sel (by omega) (floodOutOfRange_weight weight listed) ?_ (floodConfigBytes_weight weight listed)
    rw [writtenFlood_weight weight listed, written]
  have drawing {l : List Byte} {x : Pattern} (range : boardInRange r = true) (written : writtenPattern pat r = x)
      (bytes : boardConfigBytes r = l) : drawn l x := by
    have pass : firstFailure (cfgChecks s1 0 ++ [fails (!boardInRange r) .badOperand]) = none := by
      rw [cfgChecks_then mode1, range]
      rfl
    refine exec_taken rfl rfl pass ?_
    rw [← written, ← bytes]
  refine ⟨fun h lo hi => timing (selects h) (within_eq_true lo hi) rfl, fun h lo hi => timing (selects h) (within_eq_true lo hi) rfl,
    fun h lo hi => timing (selects h) (within_eq_true lo hi) rfl, fun h lo hi => timing (selects h) (within_eq_true lo hi) rfl,
    fun h hi => linking (selects h) (decide_eq_true hi) (writeBaud_eq s1 v),
    fun h lo hi => linking (selects h) (within_eq_true lo hi) rfl, fun h hi => linking (selects h) (decide_eq_true hi) rfl, fun a area lo hi hi' => ?area,
    fun h => weighing (selects h) (by omega) (by omega) rfl, fun h => weighing (selects h) (by omega) (by omega) rfl,
    fun h => weighing (selects h) (by omega) (by omega) rfl, fun h => weighing (selects h) (by omega) (by omega) rfl,
    fun h lo hi => flooding (selects h) (by omega) (floodOutOfRange_shift lo hi) rfl rfl, ?kind, ?low, ?high, ?clock⟩
  case area =>
    have slot : areaOf a.val = a := areaOf_eq rfl
    refine flooding area (by omega) (floodOutOfRange_area (by omega) lo hi hi') ?_ (if_pos a.isLt)
    rw [writtenFlood, if_pos a.isLt, slot, State.setArea]
  case kind =>
    intro k sel code bars lo hi
    have known : patternKindOf r.b4.toNat = some k := by rw [code, patternKindOf_code]
    have range : boardInRange r = true := by
      rw [boardInRange, selects sel, known, List.contains_iff_mem.mpr bars, decide_eq_true lo, decide_eq_true hi]
      rfl
    have written : writtenPattern pat r = { pat with kind := k, bars := r.b5.toNat, width := r.b6.toNat } := by
      rw [writtenPattern, selects sel, known]
      rfl
    exact drawing range written (by rw [boardConfigBytes, selects sel] <;> rfl)
  case low =>
    intro sel lo hi small
    have codes : codeFields r.b5 r.b6 r.b7 = digits [r.b5, r.b6, r.b7] := rfl
    have range : boardInRange r = true := by
      rw [boardInRange, selects sel, codes, decide_eq_true lo, decide_eq_true hi]
      exact List.all_eq_true.mpr fun d m => decide_eq_true (small d m)
    refine ⟨putCodes pat.codes 0 (digits [r.b5, r.b6, r.b7]), fun k => ?_, drawing range ?_ ?_⟩
    · rw [putCodes_get rfl (Nat.zero_le 6) small k]
      simp only [Nat.zero_le, true_and, Nat.zero_add, Nat.sub_zero]
    · rw [writtenPattern, selects sel, codes] <;> rfl
    · rw [boardConfigBytes, selects sel, codes] <;> rfl
  case high =>
    intro sel small
    have codes : codeFields r.b4 r.b5 r.b6 = digits [r.b4, r.b5, r.b6] := rfl
    have range : boardInRange r = true := by
      rw [boardInRange, selects sel, codes]
      exact List.all_eq_true.mpr fun d m => decide_eq_true (small d m)
    refine ⟨putCodes pat.codes 6 (digits [r.b4, r.b5, r.b6]), fun k => ?_, drawing range ?_ ?_⟩
    · rw [putCodes_get rfl (Nat.le_refl 6) small k]
      by_cases first : k.val < 6
      · rw [if_pos first, if_neg (by omega)]
      · rw [if_neg first, if_pos (by omega)]
    · rw [writtenPattern, selects sel, codes] <;> rfl
    · rw [boardConfigBytes, selects sel, codes] <;> rfl
  case clock =>
    intro some'
    have pass : firstFailure (cfgChecks s1 0 ++ [fails (num16 r.b3 r.b4 == 0) .badOperand]) = none := by
      rw [cfgChecks_then mode1, beq_eq_false_iff_ne.mpr some']
      rfl
    exact exec_taken rfl rfl pass rfl

end Sys2Proof.Proofs
end

section
/-! A frame's arrival, and the commands of the ports that reach no block: R111, R113, R166 to R168, R172. -/

namespace Sys2Proof.Machine

variable {s : State} {c : Console}

/-- R111: the console heard, its fields written out. -/
theorem heard_eq (s : State) (c : Console) : s.heard c = { s with desks := s.desks.set c ⟨.present (if s.mode = .inService
    then some (s.time.runClock + BitVec.ofNat 32 (s.timing.absenceHalfSeconds * 500)) else none), s.time.runClock,
      (s.desk c).signedOn⟩ } := by
  have test : s.inService = true ↔ s.mode = .inService := beq_iff_eq
  simp only [State.heard, test]
  rfl

theorem presentAt_heard_self (s : State) (c : Console) : (s.heard c).presentAt c = true := by
  rw [heard_eq, State.presentAt, State.desk]
  simp

theorem presentAt_heard_ne {d : Console} (other : d ≠ c) : (s.heard c).presentAt d = s.presentAt d := by
  have desk : (s.heard c).desk d = s.desk d := by
    rw [heard_eq]
    exact Vector.getElem_set_ne c.isLt d.isLt (Fin.val_ne_of_ne other.symm)
  rw [State.presentAt, State.presentAt, desk]

theorem Kept.presentAt_eq {t : State} (k : Kept s t) (d : Console) : t.presentAt d = s.presentAt d := by
  rw [State.presentAt, State.presentAt, State.desk, State.desk, k.desks]

theorem anyAbsent_iff (s : State) : s.anyAbsent = true ↔ ∃ d, s.presentAt d = false := by
  unfold State.anyAbsent
  constructor
  · intro some'
    obtain ⟨d, -, absent⟩ := List.any_eq_true.mp some'
    exact ⟨d, by simpa using absent⟩
  · rintro ⟨d, absent⟩
    exact List.any_eq_true.mpr ⟨d, by fin_cases d <;> simp [allFour], by simp [absent]⟩

/-- R113: what the return of an ABSENT console makes before point 509 is told. -/
def returnedHome (s : State) (c : Console) (since : Word32) : State :=
  let s3 := setFlagAt .presence allFour (offer (s.heard c) (journalRecord (s.heard c) .present .accountable c c 0#6
    (s.operatorNumber c) since))
  reevaluateAll s3 (areasOfConsole s3 c)

theorem returnedHome_kept (s : State) (c : Console) (since : Word32) :
    Kept (s.heard c) (returnedHome s c since) :=
  (reevaluateAll_kept ..).after ((setFlagAt_keeps ..).after (offer_keeps ..))

/-- R113: point 509 is NORMAL exactly where no other console was ABSENT. -/
theorem returnConsole_eq (s : State) (c : Console) (since : Word32) : returnConsole s c since =
    if ∃ d, d ≠ c ∧ s.presentAt d = false then returnedHome s c since
    else systemPoint (returnedHome s c since) 509 .normal := by
  have absent : (returnedHome s c since).anyAbsent = true ↔ ∃ d, d ≠ c ∧ s.presentAt d = false := by
    rw [anyAbsent_iff]
    refine exists_congr fun d => ?_
    rw [(returnedHome_kept s c since).presentAt_eq]
    by_cases same : d = c
    · subst same
      simp [presentAt_heard_self]
    · simp [presentAt_heard_ne same, same]
  exact if_congr absent rfl rfl

theorem getD_drop (l : List Byte) (n k : Nat) : (l.drop n).getD k 0#8 = l.getD (n + k) 0#8 := by
  rw [List.getD_eq_getElem?_getD, List.getElem?_drop, List.getD_eq_getElem?_getD]

end Sys2Proof.Machine

namespace Sys2Proof.Proofs

open Sys2Proof.Machine

/-- Settles O5. -/
theorem portsAnswerTheirFrames : Obligations.PortsAnswerTheirFrames := by
  intro c tag code r s s1 p part now heard returned
  have heard_eq' : s.heard c = heard := heard_eq s c
  have returned_eq (since : Word32) : returnedHome s c since = returned since := by
    unfold returnedHome
    rw [heard_eq']
    rfl
  have arrives {since : Word32} (absent : (s.desk c).presence = .absent since) :
      s1 = if ∃ d, d ≠ c ∧ s.presentAt d = false then returned since else systemPoint (returned since) 509 .normal := by
    rw [← returned_eq, ← returnConsole_eq]
    simp only [s1, frameArrives, absent]
  refine ⟨fun d present => ?_, fun since absent => ⟨fun all => ?_, fun some' => ?_⟩, rfl, ?_, rfl, rfl, rfl, rfl⟩
  · rw [← heard_eq']
    simp only [s1, frameArrives, present]
  · rw [arrives absent, if_neg]
    rintro ⟨d, other, gone⟩
    rw [all d other] at gone
    exact absurd gone (by decide)
  · rw [arrives absent, if_pos some']
  · change Host.Outcome.next (settle (s1.setPort c { p with
      response := responseOf (readMoreReply part p.result).status r.tag (readMoreReply part p.result).record })) = _
    unfold readMoreReply
    split
    · rfl
    · split
      · rfl
      · simp only [responseOf, getD_drop]
        rfl

end Sys2Proof.Proofs
end

section
/-! The start and the end of an area's flood, and the decay step: R71, R72, R75, R76, R79. -/

namespace Sys2Proof.Machine

variable {s : State} {a : AreaNo}

/-! ## The consoles whose scope holds an area, and the hold -/

theorem mem_scopeHolders {d : Console} : d ∈ scopeHolders s a ↔ (s.horn d).scope.getLsbD a = true := by
  unfold scopeHolders
  rw [List.mem_filter]
  exact and_iff_right (by fin_cases d <;> simp [allFour])

theorem setFlagInScope_eq (f : EventFlag) (s : State) (a : AreaNo) :
    setFlagInScope f s a = { s with ports := (setFlagInScope f s a).ports } := setFlagAt_eq ..

theorem port_setFlagInScope (f : EventFlag) (s : State) (a : AreaNo) (d : Console) :
    (setFlagInScope f s a).port d = if (s.horn d).scope.getLsbD a then (s.port d).raised f else s.port d := by
  rw [setFlagInScope, port_setFlagAt]
  exact if_congr mem_scopeHolders rfl rfl

/-- R79: the hold writes the records alone. -/
theorem judgeHold_eq (s : State) (a : AreaNo) : judgeHold s a = { s with records := (judgeHold s a).records } := by
  unfold judgeHold
  split
  · rfl
  · dsimp only
    split <;> rfl

/-- R79: the REVIEWING record of an area is held while an area of its set is in FLOOD. -/
theorem record_judgeHold {n : RecordNo} (named : (s.area a).record = some n) (reviewing : (s.record n).phase = .reviewing) :
    (judgeHold s a).record n = { s.record n with
      held := decide (∃ b : AreaNo, (s.record n).areas.getLsbD b = true ∧ (s.area b).flood = .flood) } := by
  unfold judgeHold
  rw [named]
  dsimp only
  rw [if_pos reviewing, State.record_setRecord, if_pos rfl, anyFlood_eq]

/-- R79: a record not REVIEWING, or not the area's, has its hold as it was. -/
theorem record_judgeHold_other {n : RecordNo} (other : (s.area a).record = some n → (s.record n).phase ≠ .reviewing) :
    (judgeHold s a).record n = s.record n := by
  unfold judgeHold
  split
  · rfl
  · next m named =>
    dsimp only
    split
    · next reviewing =>
      rw [State.record_setRecord, if_neg]
      rintro rfl
      exact other named reviewing
    · rfl

/-! ## What follows a change of an area's flood state (R72, R76) -/

/-- R72, R76, R79: the record of the change, FLOOD at the consoles in scope, and the hold. -/
def floodTold (s : State) (a : AreaNo) (r : JournalRecord) : State :=
  judgeHold (setFlagInScope .flood { s with journal := s.journal.accept r } a) a

theorem floodTold_eq (s : State) (a : AreaNo) (r : JournalRecord) : floodTold s a r = { s with
    journal := s.journal.accept r, ports := (floodTold s a r).ports, records := (floodTold s a r).records } := by
  unfold floodTold
  rw [judgeHold_eq]
  dsimp only
  rw [setFlagInScope_eq]

theorem port_floodTold (s : State) (a : AreaNo) (r : JournalRecord) (d : Console) :
    (floodTold s a r).port d = if (s.horn d).scope.getLsbD a then (s.port d).raised .flood else s.port d := by
  unfold floodTold
  rw [judgeHold_eq]
  exact port_setFlagInScope ..

/-- R79: the hold depends on the areas and the records alone. -/
theorem records_judgeHold_congr {t : State} (areas : t.areas = s.areas) (records : t.records = s.records) :
    (judgeHold t a).records = (judgeHold s a).records := by
  have area (b : AreaNo) : t.area b = s.area b := congrArg (fun v : Vector Area 24 => v[b]) areas
  have record (n : RecordNo) : t.record n = s.record n := congrArg (fun v : Vector HoRecord 4 => v[n]) records
  unfold judgeHold anyFlood
  simp only [area, record]
  cases (s.area a).record with
  | none => exact records
  | some n =>
    dsimp only
    split
    · exact congrArg (fun v : Vector HoRecord 4 => v.set n _) records
    · exact records

theorem record_floodTold (s : State) (a : AreaNo) (r : JournalRecord) (n : RecordNo) :
    (floodTold s a r).record n = (judgeHold s a).record n := by
  have same := setFlagInScope_eq .flood { s with journal := s.journal.accept r } a
  have areas : (setFlagInScope .flood { s with journal := s.journal.accept r } a).areas = s.areas := by rw [same]
  have recs : (setFlagInScope .flood { s with journal := s.journal.accept r } a).records = s.records := by rw [same]
  have records : (floodTold s a r).records = (judgeHold s a).records := records_judgeHold_congr areas recs
  rw [State.record, records, State.record]

/-! ## The decay step (R75, R76) -/

theorem decayArea_still (h : ¬ ((s.area a).flood = .flood ∧ decayed (s.area a).load s.decayShift < (s.area a).tOffApplied)) :
    decayArea s a = s.setArea a { s.area a with load := decayed (s.area a).load s.decayShift } := by
  refine if_neg ?_
  rwa [Bool.and_eq_true, decide_eq_true_eq, decide_eq_true_eq]

theorem decayArea_ends (flood : (s.area a).flood = .flood)
    (low : decayed (s.area a).load s.decayShift < (s.area a).tOffApplied) (calm : s.calm 1) :
    decayArea s a =
      floodTold (s.setArea a { s.area a with load := decayed (s.area a).load s.decayShift, flood := .normal }) a
        (journalRecord s .floodOff .routine a (s.area a).owner 0#6 (s.operatorNumber (s.area a).owner)
          (valueHalves (decayed (s.area a).load s.decayShift) (s.area a).tOffApplied)) := by
  unfold decayArea
  dsimp only
  rw [if_pos (by rw [Bool.and_eq_true, decide_eq_true_eq, decide_eq_true_eq]; exact ⟨flood, low⟩),
    areaRecord, State.area_setArea, if_pos rfl]
  have twice (x y : Area) : (s.setArea a x).setArea a y = s.setArea a y := by simp [State.setArea]
  have calm' (x : Area) : (s.setArea a x).calm (0 + 1) := calm
  rw [twice, offer_calm (calm' _)]
  rfl

end Sys2Proof.Machine

namespace Sys2Proof.Proofs

open Sys2Proof.Machine

/-- Settles O45. -/
theorem decayStepOfAnArea : Obligations.DecayStepOfAnArea := by
  intro s a e load ends t calm
  refine ⟨fun still => decayArea_still still, fun ⟨flood, low⟩ => ?_⟩
  have t_eq : t = floodTold _ a _ := decayArea_ends flood low calm
  have areas : t.areas = s.areas.set a { e with load := load, flood := .normal } := by
    rw [t_eq, floodTold_eq]
    rfl
  have records (n : RecordNo) : t.record n = (judgeHold (s.setArea a { e with load := load, flood := .normal }) a).record n := by
    rw [t_eq, record_floodTold]
    rfl
  refine ⟨?_, fun b other => ?_, ?_, fun d => ?_, fun n named reviewing => ?_⟩
  · rw [State.area, areas]
    exact Vector.getElem_set_self ..
  · rw [State.area, areas]
    exact Vector.getElem_set_ne _ _ (Fin.val_ne_of_ne other.symm)
  · rw [t_eq, floodTold_eq]
    exact accept_fifo ..
  · rw [t_eq, port_floodTold]
    exact apply_ite Port.flags ..
  · have named' : ((s.setArea a { e with load := load, flood := .normal }).area a).record = some n := by
      rw [State.area_setArea, if_pos rfl]
      exact named
    rw [records, record_judgeHold named' reviewing]
    simp only [decide_eq_true_eq]
    simp only [State.area, areas]
    rfl

end Sys2Proof.Proofs
end

section
/-! The restart live state: R178. -/

namespace Sys2Proof.Machine

variable {c : Console} {s : State}

theorem horn_restartLive (c : Console) (s : State) (d : Console) : (restartLive c s).horn d = { s.horn d with
    silenced := [], chirp := none, scope := hornScope (restartLive c s) d } := by
  have horns : (restartLive c s).horn d = _ := horn_recomputeScopes _ d
  rw [horns]
  simp only [State.horn, mapTable_getElem]
  rfl

/-- R124, R178: with no record named and no area ESCALATED a scope holds the areas owned. -/
theorem scope_restartLive (c : Console) (s : State) (d : Console) (a : AreaNo) :
    ((restartLive c s).horn d).scope.getLsbD a = true ↔ (s.area a).owner = d := by
  rw [horn_restartLive]
  dsimp only
  rw [hornScope_getLsbD, area_restartLive]
  simp [Area.live]

theorem roster_restartLive (c : Console) (s : State) (k : SlotNo) :
    (restartLive c s).roster[k] = (s.roster[k]).map Operator.signedOff := mapTable_getElem ..

theorem desk_restartLive (c : Console) (s : State) (d : Console) : (restartLive c s).desk d = restartDesk s :=
  table4_getElem ..

end Sys2Proof.Machine

namespace Sys2Proof.Proofs

open Sys2Proof.Machine

/-- Settles O49. -/
theorem restartLiveState : Obligations.RestartLiveState := by
  intro c s t now
  have running : s.inService = true ↔ s.mode = .inService := beq_iff_eq
  refine ⟨rfl, rfl, rfl, fun g => ?_, point_restartLive c s, fun a => ?_, fun k op held => ?_, fun k empty => ?_,
    fun d => ⟨?_, ?_, ?_⟩, fun n => ?_, fun d => ⟨?_, ?_, scope_restartLive c s d⟩, ⟨rfl, rfl, rfl, rfl, ?_⟩, fun d => ?_⟩
  · exact Vector.getElem_replicate ..
  · exact area_restartLive c s a
  · rw [roster_restartLive, held]
    rfl
  · rw [roster_restartLive, empty]
    rfl
  · rw [desk_restartLive]
    rfl
  · rw [desk_restartLive]
    rfl
  · rw [desk_restartLive]
    simp only [restartDesk, running]
    rfl
  · rw [record_restartLive]
    exact (Vector.getElem_replicate ..).symm
  · rw [horn_restartLive]
  · rw [horn_restartLive]
  · change Link.ok (if s.inService then _ else _) = _
    simp only [running]
    rfl
  · rw [port_restartLive, restartPort]
    by_cases same : d = c
    · rw [if_pos same]
      exact ⟨rfl, rfl, by cases (s.port d).cursor <;> rfl, fun _ => ⟨rfl, rfl⟩, absurd same⟩
    · rw [if_neg same]
      exact ⟨rfl, rfl, by cases (s.port d).cursor <;> rfl, fun h => absurd h same, fun _ => ⟨rfl, rfl⟩⟩

end Sys2Proof.Proofs
end

section
/-! The absence of a console and the escalation of an area: R112, R116. -/

namespace Sys2Proof.Machine

variable {s : State}

theorem absenceDue_iff (service : s.mode = .inService) (c : Console) : absenceDue s c = true ↔
    ∃ d, (s.desk c).presence = .present (some d) ∧ (s.time.runClock - d).toNat < 2147483648 := by
  have on : s.inService = true := beq_iff_eq.mpr service
  unfold absenceDue
  split
  · next d presence => simp [presence, on, reached]
  · next other =>
    refine iff_of_false (by simp) ?_
    rintro ⟨d, presence, -⟩
    exact other d presence

theorem escalationDue_iff (service : s.mode = .inService) (a : AreaNo) : escalationDue s a = true ↔
    ∃ since, (s.area a).attendance = .unattended since ∧
      (s.time.runClock - (since + BitVec.ofNat 32 (s.timing.escalationDelay * 1000))).toNat < 2147483648 := by
  have on : s.inService = true := beq_iff_eq.mpr service
  unfold escalationDue
  split
  · next since attendance => simp [attendance, on, reached, after]
  · next other =>
    refine iff_of_false (by simp) ?_
    rintro ⟨since, attendance, -⟩
    exact other since attendance

/-- The first of a list in ascending order that passes a test, where none before it does. -/
theorem find?_least {n : Nat} {l : List (Fin n)} {f : Fin n → Bool} (ascending : l.Pairwise (· < ·)) {x : Fin n}
    (whole : ∀ y, y ∈ l) (passes : f x = true) (first : ∀ y, y < x → f y ≠ true) : l.find? f = some x := by
  rw [find?_eq_some_iff_least Fin.val ascending whole]
  refine ⟨passes, fun y hy => ?_⟩
  by_contra lower
  exact first y (Fin.lt_def.mpr (Nat.lt_of_not_le lower)) hy

/-- R116: an area made ESCALATED, with its record and events, before point 508 is told. -/
theorem escalateArea_eq {a : AreaNo} {since : Word32} (left : (s.area a).attendance = .unattended since) :
    escalateArea s a =
      let o := (s.area a).owner
      let s1 := recomputeScopes (s.setArea a { s.area a with attendance := .escalated since })
      let s3 := setFlag .presence (setFlag .presence (offer s1 (journalRecord s1 .escalate .accountable a o
        (0#4 ++ escalationReason s o) (s.operatorNumber o) since)) 0) o
      if s.anyEscalated then s3 else systemPoint s3 508 .active := by
  have since_eq : (s.area a).attendance.since.getD 0#32 = since := by rw [left]; rfl
  have stepped : stepEscalated s a = recomputeScopes (s.setArea a { s.area a with attendance := .escalated since }) := by
    rw [stepEscalated, since_eq, State.setAttendance]
  have area : (stepEscalated s a).area a = { s.area a with attendance := .escalated since } := by
    rw [stepped]
    exact (State.area_setArea ..).trans (if_pos rfl)
  have record : escalateRecord (stepEscalated s a) a = journalRecord (stepEscalated s a) .escalate .accountable a
      (s.area a).owner (0#4 ++ escalationReason s (s.area a).owner) (s.operatorNumber (s.area a).owner) since := by
    unfold escalateRecord areaRecord
    rw [area]
    rfl
  unfold escalateArea
  dsimp only
  rw [record, stepped]

end Sys2Proof.Machine

namespace Sys2Proof.Proofs

open Sys2Proof.Machine

/-- Settles O53. -/
theorem absenceAndEscalation : Obligations.AbsenceAndEscalation := by
  intro s now past overdue left service
  refine ⟨fun c due first => ?_, fun a since due first => ?_⟩
  · have found : allFour.find? (absenceDue s) = some c :=
      find?_least (by decide) (fun d => by fin_cases d <;> simp [allFour]) ((absenceDue_iff service c).mpr due)
        fun d lower h => first d lower ((absenceDue_iff service d).mp h)
    have absent : consoleAbsent s = becomeAbsent s c := by rw [consoleAbsent, found]
    intro s1 s2 s3 s4
    have others : allFour.filter (· != c) = (List.finRange 4).filter (· ≠ c) := by
      unfold bne
      simp only [allFour, ne_eq, decide_not]
      rfl
    have told : consoleAbsent s = if s.anyAbsent then s4 else systemPoint s4 509 .active := by
      rw [absent]
      unfold becomeAbsent
      rw [others]
      rfl
    refine ⟨fun all => congrArg event (told.trans (if_neg ?_)),
      fun some' => congrArg event (told.trans (if_pos ((anyAbsent_iff s).mpr some')))⟩
    rw [anyAbsent_iff]
    rintro ⟨d, gone⟩
    rw [all d] at gone
    exact absurd gone (by decide)
  · have found : allAreas.find? (escalationDue s) = some a :=
      find?_least (List.pairwise_lt_finRange 24) (List.mem_finRange ·) ((escalationDue_iff service a).mpr ⟨since, due⟩)
        fun b lower h => let ⟨u, hu⟩ := (escalationDue_iff service b).mp h; first b lower u hu
    have escalated : escalate s = escalateArea s a := by rw [escalate, found]
    intro o reason s1 s2 s3
    have reason_eq : escalationReason s o = reason := by
      unfold escalationReason
      cases present : s.presentAt o <;> simp [reason, present]
    have told : escalate s = if s.anyEscalated then s3 else systemPoint s3 508 .active := by
      rw [escalated, escalateArea_eq due.1]
      dsimp only
      rw [reason_eq]
    refine ⟨fun none' => congrArg event (told.trans (if_neg ?_)),
      fun some' => congrArg event (told.trans (if_pos ((anyEscalated_iff s).mpr some')))⟩
    rw [anyEscalated_iff]
    rintro ⟨b, u, other⟩
    exact none' b u other

end Sys2Proof.Proofs
end

section
/-! The loss of the field link: R147. -/

namespace Sys2Proof.Machine

variable {s : State}

theorem staleTarget_eq (p : PointNo) (q : Point) : staleTarget (p, q) = decide (p.val < 508 ∧ q.configured = true) := by
  rw [staleTarget, Bool.decide_and, Bool.decide_eq_true]

theorem length_filter_points (s : State) (f : PointNo × Point → Bool) :
    ((entries s.points).filter f).length = ((List.finRange 512).filter fun p => f (p, s.point p)).length := by
  rw [filter_points s fun p q => f (p, q), List.length_map]

theorem madeStale_eq (s : State) : madeStale s = ((List.finRange 512).filter fun p =>
    decide ((p.val < 508 ∧ (s.point p).configured = true) ∧ (s.point p).quality ≠ .stale)).length := by
  rw [madeStale, length_filter_points]
  refine congrArg (fun f => (List.filter f _).length) (funext fun p => ?_)
  rw [Bool.eq_iff_iff]
  simp [staleTarget_eq]

theorem lostGood_eq (s : State) (a : AreaNo) : lostGood s a = ((List.finRange 512).filter fun p =>
    decide ((p.val < 508 ∧ (s.point p).configured = true) ∧ (s.point p).quality = .good ∧ (s.point p).area = a)).length := by
  rw [lostGood, length_filter_points]
  refine congrArg (fun f => (List.filter f _).length) (funext fun p => ?_)
  rw [Bool.eq_iff_iff]
  simp [staleTarget_eq, and_assoc]

theorem linkDue_eq {d : Word32} (service : s.mode = .inService) (link : s.receiver.link = .ok (some d)) :
    linkDue s = decide ((s.time.runClock - d).toNat < 2147483648) := by
  have on : s.inService = true := beq_iff_eq.mpr service
  rw [linkDue, link]
  dsimp only
  rw [on, reached, Bool.true_and]

/-- R147: what the loss of the link makes, after the points and areas that become STALE. -/
theorem loseLink_eq (s : State) : loseLink s =
    let s1 := { s with
      points := (staleAll s).points, areas := (staleAll s).areas
      receiver := { s.receiver with framing := .searching [], expected := none, link := .lost s.time.runClock } }
    systemPoint (setFlagAt .link allFour (offer s1
      (journalRecord s1 .linkLost .accountable (madeStale s) 0 0#6 0 s.receiver.lastValid))) 511 .active := by
  have whole := staleAll_eq s
  unfold loseLink
  dsimp only
  generalize staleAll s = t at whole ⊢
  generalize t.points = v at whole ⊢
  generalize t.areas = w at whole ⊢
  subst whole
  rfl

end Sys2Proof.Machine

namespace Sys2Proof.Proofs

open Sys2Proof.Machine

/-- Settles O48. -/
theorem linkIsLostAtItsDeadline : Obligations.LinkIsLostAtItsDeadline := by
  intro s d stale made good service link
  have due := linkDue_eq service link
  refine ⟨fun early => ?_, fun late => ⟨(staleAll s).points, (staleAll s).areas, fun p => ⟨fun target => ?_, fun other => ?_⟩,
    fun a => ?_, ?_⟩⟩
  · rw [decide_eq_false (Nat.not_lt.mpr early)] at due
    exact congrArg event (if_neg (by rw [due]; exact Bool.false_ne_true))
  · refine (point_staleAll s p).trans (if_pos ?_)
    rw [staleTarget_eq]
    exact decide_eq_true target
  · refine (point_staleAll s p).trans (if_neg ?_)
    rw [staleTarget_eq, decide_eq_true_eq]
    exact other
  · refine (area_staleAll s a).trans ?_
    rw [lostGood_eq]
  · intro s1 s2
    rw [decide_eq_true late] at due
    have counted : madeStale s = made := madeStale_eq s
    clear_value made
    subst counted
    exact congrArg event ((if_pos due).trans (loseLink_eq s))

end Sys2Proof.Proofs
end

section
/-! A valid record at the field receiver: R140, R142 to R146, R148 to R150. -/

namespace Sys2Proof.Machine

variable {s : State}

/-! ## The seven bytes (R140, R142, R143) -/

theorem byteSum_recordBytes (kind hi lo state seq : Byte) : byteSum (recordBytes kind hi lo state seq) = 0#8 := by
  simp only [byteSum, recordBytes, List.foldl]
  bv_omega

/-- R142: bytes gathered in LOCKED behind those held. -/
theorem receive_locked {held bytes : List Byte} (started : held ≠ []) (room : held.length + bytes.length ≤ 6) :
    bytes.foldl receiveByte (s.setFraming (.locked held)) = s.setFraming (.locked (held ++ bytes)) := by
  induction bytes generalizing held with
  | nil => rw [List.append_nil, List.foldl_nil]
  | cons b bytes ih =>
    rw [List.length_cons] at room
    have taken : receiveByte (s.setFraming (.locked held)) b = s.setFraming (.locked (held ++ [b])) :=
      lockedByte_gathers started (by omega)
    rw [List.foldl_cons, taken, ih (by simp) (by simp; omega), List.append_assoc, List.singleton_append]

/-- R143: bytes gathered in SEARCHING behind those held. -/
theorem receive_searching {held bytes : List Byte} (started : held ≠ []) (room : held.length + bytes.length ≤ 6) :
    bytes.foldl receiveByte (s.setFraming (.searching held)) = s.setFraming (.searching (held ++ bytes)) := by
  induction bytes generalizing held with
  | nil => rw [List.append_nil, List.foldl_nil]
  | cons b bytes ih =>
    rw [List.length_cons] at room
    have taken : receiveByte (s.setFraming (.searching held)) b = s.setFraming (.searching (held ++ [b])) :=
      searchingByte_gathers started (by omega)
    rw [List.foldl_cons, taken, ih (by simp) (by simp; omega), List.append_assoc, List.singleton_append]

/-- R144: the seven bytes of a valid record at a receiver that holds none are taken as that record. -/
theorem receive_record {kind hi lo state seq : Byte}
    (empty : s.receiver.framing = .locked [] ∨ s.receiver.framing = .searching []) :
    (recordBytes kind hi lo state seq).foldl receiveByte s =
      handleRecord (s.setFraming (.locked [])) kind hi lo state seq := by
  have sum := byteSum_recordBytes kind hi lo state seq
  have split : recordBytes kind hi lo state seq = syncByte :: ([kind, hi, lo, state, seq] ++
    [-byteSum [syncByte, kind, hi, lo, state, seq]]) := rfl
  rw [split, List.foldl_cons, List.foldl_append]
  rcases empty with empty | empty
  · have first : receiveByte s syncByte = s.setFraming (.locked [syncByte]) := by
      rw [receiveByte, empty]
      exact lockedByte_sync
    rw [first, receive_locked (List.cons_ne_nil _ _) (by simp)]
    exact lockedByte_valid (held := [syncByte, kind, hi, lo, state, seq]) rfl sum
  · have first : receiveByte s syncByte = s.setFraming (.searching [syncByte]) := by
      rw [receiveByte, empty]
      exact searchingByte_sync
    rw [first, receive_searching (List.cons_ne_nil _ _) (by simp)]
    exact searchingByte_valid (window := [syncByte, kind, hi, lo, state, seq]) rfl sum

/-! ## What a record reports (R144, R146) -/

theorem configured_of_settings {t : State} (k : t.settings = s.settings) (p : PointNo) :
    (t.point p).configured = (s.point p).configured := by
  have cfg : (t.point p).cfg = (s.point p).cfg := congrArg (Settings.points · p) k
  exact (Point.mk.injEq .. ▸ cfg).1

theorem applyKind_idle (point : Nat) (state : Byte) : applyKind s 0#8 point state = s := rfl

theorem applyKind_report {kind : Byte} (listed : kind = 1#8 ∨ kind = 2#8) (point : Nat) (state : Byte) :
    applyKind s kind point state = applyReport s point state := by
  rcases listed with rfl | rfl <;> rfl

theorem applyKind_unknown {kind : Byte} (unlisted : 3 ≤ kind.toNat) (point : Nat) (state : Byte) :
    applyKind s kind point state = countUnknown s := by
  unfold applyKind
  split
  · omega
  · omega
  · omega
  · rfl

theorem applyReport_above {point : Nat} (above : 508 ≤ point) (state : Byte) : applyReport s point state = countUnknown s :=
  if_pos (by omega)

theorem applyReport_unconfigured {p : PointNo} (field : p.val ≤ 507) (off : (s.point p).configured = false) (state : Byte) :
    applyReport s p.val state = countUnknown s := by
  have off' : ¬ ((countUnknown s).point p).configured = true := by
    change ¬ (s.point p).configured = true
    rw [off]
    exact Bool.false_ne_true
  unfold applyReport
  rw [if_neg (by omega), pointOf_eq rfl]
  dsimp only
  rw [if_neg (by rw [off]; exact Bool.false_ne_true), pointInput]
  exact if_neg off'

theorem applyReport_configured {p : PointNo} (field : p.val ≤ 507) (on : (s.point p).configured = true) (state : Byte) :
    applyReport s p.val state = pointInput offer s p (inputOf state) (qualityOf state) := by
  unfold applyReport
  rw [if_neg (by omega), pointOf_eq rfl]
  dsimp only
  rw [if_pos on]

/-! ## The link timer and the sequence test (R144, R145, R148) -/

theorem heardRecord_settings (s : State) (seq : Byte) : (sequenceTest (linkHeard s) seq).settings = s.settings :=
  ((keeps_sequenceTest ..).after (keeps_linkHeard s) : Keeps (fun _ => False) s _).settings id

theorem linkHeard_ok {d : Option Word32} (link : s.receiver.link = .ok d) : linkHeard s = { s with
    receiver := { s.receiver with
      lastValid := s.time.runClock, link := .ok (some (after s.time.runClock s.timing.linkLossMs)) } } := by
  rw [linkHeard, link]

theorem linkHeard_lost {since : Word32} (link : s.receiver.link = .lost since) :
    linkHeard s =
      let found := { s with receiver := { s.receiver with
        lastValid := s.time.runClock, link := .ok (some (after s.time.runClock s.timing.linkLossMs)) } }
      systemPoint (setFlagAt .link allFour (offer found
        (journalRecord found .linkOk .routine 0 0 0#6 0 (s.time.runClock - since)))) 511 .normal := by
  rw [linkHeard, link]

theorem sequenceTest_first (none' : s.receiver.expected = none) (seq : Byte) :
    sequenceTest s seq = { s with receiver := { s.receiver with expected := some (seq + 1#8) } } := by
  rw [sequenceTest, none']

theorem sequenceTest_next {seq : Byte} (expected : s.receiver.expected = some seq) :
    sequenceTest s seq = { s with receiver := { s.receiver with expected := some (seq + 1#8) } } := by
  rw [sequenceTest, expected]
  exact if_pos rfl

theorem sequenceTest_gap {seq e : Byte} (expected : s.receiver.expected = some e) (gap : e ≠ seq) :
    sequenceTest s seq =
      let n := saturate16 (s.receiver.counts.gap + 1)
      let s1 := { s with receiver := { s.receiver with
        expected := some (seq + 1#8), counts := { s.receiver.counts with gap := n } } }
      offer s1 (journalRecord s1 .gap .routine n 0 0#6 0 (gapValue e seq)) := by
  rw [sequenceTest, expected]
  exact if_neg gap

end Sys2Proof.Machine

namespace Sys2Proof.Proofs

open Sys2Proof.Machine

/-- Settles O47. -/
theorem fieldRecordTaken : Obligations.FieldRecordTaken := by
  intro kind hi lo state seq s d k x now s1 after unknown goes reports empty
  have taken {t : State} (handled : handleRecord (s.setFraming (.locked [])) kind hi lo state seq = t) : goes t :=
    congrArg event ((receive_record empty).trans handled)
  have reports_of {t : State} (kept : ∀ p, (t.point p).configured = (s.point p).configured)
      (handled : handleRecord (s.setFraming (.locked [])) kind hi lo state seq =
        applyKind t kind (num16 hi lo) state) : reports t := by
    refine ⟨fun idle => taken (handled.trans ?_), fun unlisted => taken (handled.trans (applyKind_unknown unlisted ..)),
      fun listed => ⟨fun above => taken (handled.trans ?_), fun p named field =>
        ⟨fun off => taken (handled.trans ?_), fun on => taken (handled.trans ?_)⟩⟩⟩
    · rw [idle, applyKind_idle]
    · rw [applyKind_report listed, applyReport_above above]
      rfl
    · rw [applyKind_report listed, named, applyReport_unconfigured field ((kept p).trans off)]
      rfl
    · rw [applyKind_report listed, named, applyReport_configured field ((kept p).trans on)]
      rfl
  have handled (service : s.mode = .inService) {t : State}
      (tested : sequenceTest (linkHeard (s.setFraming (.locked []))) seq = t) : reports t := by
    refine reports_of (fun p => ?_) ((if_pos (beq_iff_eq.mpr service)).trans (tested ▸ rfl))
    rw [← tested]
    exact configured_of_settings (s := s.setFraming (.locked [])) (heardRecord_settings _ seq) p
  refine ⟨fun configuring => taken (if_neg ?_), fun service link => handled service ?_, ?_⟩
  · simp [State.inService, State.setFraming, configuring]
  · have heard := linkHeard_ok (s := s.setFraming (.locked [])) link
    rw [heard]
    simp only [after]
    cases expected : x.expected with
    | none => exact Eq.trans (sequenceTest_first (by exact expected) seq) rfl
    | some e =>
      dsimp only
      split
      · next same =>
        subst same
        exact Eq.trans (sequenceTest_next (by exact expected)) rfl
      · next gap => exact Eq.trans (sequenceTest_gap (by exact expected) gap) rfl
  · intro service since link none' found told
    refine handled service ?_
    have heard : linkHeard (s.setFraming (.locked [])) = told := linkHeard_lost (s := s.setFraming (.locked [])) link
    have expected : told.receiver.expected = none := by
      have kept : Kept found told := (systemPoint_keeps ..).after ((setFlagAt_keeps ..).after (offer_keeps ..))
      rw [kept.receiver]
      exact none'
    rw [heard, sequenceTest_first expected]

end Sys2Proof.Proofs
end

section
/-! A record offered to the FIFO, and the loss condition that point 510 reports: R155 to R159. -/

namespace Sys2Proof.Machine

variable {s : State} {j : Journal}

/-! ## Records that join (R155, R158, R159) -/

/-- R155, R158, R159: the journal with records joined, and the head begun where the line was free for it. -/
def Journal.joined (j : Journal) (l : List JournalRecord) : Journal :=
  let k := { j with fifo := j.fifo ++ l, quiet := false }
  if j.stream = .streaming ∧ j.unit = none then k.headBegun else k

theorem accept_eq (j : Journal) (x : JournalRecord) : j.accept x = j.joined [x] := by
  unfold Journal.accept
  rw [kick_eq]
  exact if_congr (by simp) rfl rfl

/-- R155, R156: a second record joins behind the first, whose head is begun by then. -/
theorem joined_accept (j : Journal) (x y : JournalRecord) : (j.joined [x]).accept y = j.joined [x, y] := by
  rw [accept_eq]
  have appended : j.fifo ++ [x] ++ [y] = j.fifo ++ [x, y] := by rw [List.append_assoc, List.singleton_append]
  by_cases free : j.stream = .streaming ∧ j.unit = none
  · have first : j.joined [x] = { j with fifo := j.fifo ++ [x], quiet := false }.headBegun := if_pos free
    have both : j.joined [x, y] = { j with fifo := j.fifo ++ [x, y], quiet := false }.headBegun := if_pos free
    rw [first, both, ← appended]
    exact if_neg fun h => by simp [Journal.headBegun] at h
  · have first : j.joined [x] = { j with fifo := j.fifo ++ [x], quiet := false } := if_neg free
    have both : j.joined [x, y] = { j with fifo := j.fifo ++ [x, y], quiet := false } := if_neg free
    rw [first, both, ← appended]
    exact if_neg free

/-! ## Loss (R156, R157) -/

theorem drop_eq (j : Journal) (cls : JournalClass) : j.drop cls = { j with
    dropRoutine := if cls = .routine then min 65535 (j.dropRoutine + 1) else j.dropRoutine
    dropAccountable := if cls = .accountable then min 65535 (j.dropAccountable + 1) else j.dropAccountable } := by
  cases cls <;> rfl

theorem lossChange_told (i : Input) (s : State) : lossChange i s = setFlagAt .journal [0, 1, 2, 3] { s with
    journal := { s.journal with
      lossEvents := if s.mode = .inService then s.journal.lossEvents ++ [i] else s.journal.lossEvents } } := by
  have test : s.inService = true ↔ s.mode = .inService := beq_iff_eq
  have changed : s.journal.changed s.inService i = { s.journal with
      lossEvents := if s.mode = .inService then s.journal.lossEvents ++ [i] else s.journal.lossEvents } := by
    unfold Journal.changed
    simp only [test]
    split <;> rfl
  rw [lossChange_eq, changed]
  rfl

/-- R155: no more is offered, taken or dropped than the class's limit allows. -/
theorem offerRecord_taken {x : JournalRecord} (clear : ¬ s.journal.lossPending = true)
    (room : s.journal.fifo.length < classLimit x.cls) : offerRecord s x = { s with journal := s.journal.joined [x] } := by
  rw [offerRecord, if_neg clear, offerAlone, if_pos room, accept_eq]

theorem offerRecord_dropped {x : JournalRecord} (clear : ¬ s.journal.lossPending = true)
    (full : classLimit x.cls ≤ s.journal.fifo.length) :
    offerRecord s x = lossChange .active { s with journal := s.journal.drop x.cls } := by
  rw [offerRecord, if_neg clear, offerAlone, if_neg (Nat.not_lt.mpr full)]
  exact if_neg clear

theorem offerRecord_placed {x : JournalRecord} (pending : s.journal.lossPending = true)
    (room : s.journal.fifo.length + 2 ≤ classLimit x.cls) : offerRecord s x = lossChange .normal { s with
      journal := { s.journal with dropRoutine := 0, dropAccountable := 0 }.joined [lossRecord s .loss .accountable 0 0, x] } := by
  have cleared (k : JournalRecord) : { s.journal.accept k with dropRoutine := 0, dropAccountable := 0 } =
      { s.journal with dropRoutine := 0, dropAccountable := 0 }.joined [k] := by
    rw [accept_eq]
    unfold Journal.joined
    dsimp only
    split <;> rfl
  rw [offerRecord, if_pos pending, if_pos (by omega)]
  dsimp only
  rw [cleared, joined_accept]

theorem offerRecord_lost {x : JournalRecord} (pending : s.journal.lossPending = true)
    (full : classLimit x.cls < s.journal.fifo.length + 2) :
    offerRecord s x = { s with journal := s.journal.drop x.cls } := by
  rw [offerRecord, if_pos pending, if_neg (by omega)]

/-! ## The events of point 510 (R157) -/

theorem eventsLeft_le (j : Journal) : j.eventsLeft ≤ j.lossEvents.length + 257 := by
  unfold Journal.eventsLeft
  have := (!j.lossPending).toNat_le
  omega

/-- R157: point 510 given the first of its events, and then the others. -/
theorem settle510_first {i : Input} {rest : List Input} (first : s.journal.lossEvents = i :: rest)
    (few : rest.length ≤ 300) : settle510 s =
      settle510 (pointInput offerRecord { s with journal := { s.journal with lossEvents := rest } } 510 i .good) := by
  have fewer := (pointInput_seq offerRecord_seq { s with journal := { s.journal with lossEvents := rest } } 510 i
    .good).eventsLeft
  have bound := eventsLeft_le { s.journal with lossEvents := rest }
  have step : give510 600 s =
      give510 599 (pointInput offerRecord { s with journal := { s.journal with lossEvents := rest } } 510 i .good) := by
    rw [give510, first]
  rw [settle510, step, settle510, (give510_covers (n := 599) (by dsimp only at fewer bound ⊢; omega)).2]

theorem settle510_empties (few : s.journal.lossEvents.length ≤ 300) : (settle510 s).journal.lossEvents = [] :=
  (give510_covers (le_trans (eventsLeft_le s.journal) (by omega))).1

end Sys2Proof.Machine

namespace Sys2Proof.Proofs

open Sys2Proof.Machine

/-- Settles O37. -/
theorem offersFollowTheClassLimits : Obligations.OffersFollowTheClassLimits := by
  intro s x j limit loss pending joined dropped told t
  have pending_iff : j.lossPending = true ↔ pending := j.lossPending_iff
  have limit_eq : classLimit x.cls = limit := by
    simp only [limit]
    cases x.cls <;> rfl
  have drop_eq' : j.drop x.cls = dropped := drop_eq j x.cls
  have told_eq (k : Journal) (kept : k.lossEvents = j.lossEvents) (i : Input) :
      lossChange i { s with journal := k } = told k i := by
    rw [lossChange_told]
    dsimp only [told]
    rw [kept]
  refine ⟨fun clear => ⟨fun room => ?_, fun full => ?_⟩, fun lost => ⟨fun room => ?_, fun full => ?_⟩,
    fun i => ⟨told_eq j rfl i, fun c => ?_⟩, rfl, settle510_none, fun i rest first few => settle510_first first few,
    settle510_empties⟩
  · exact offerRecord_taken (mt pending_iff.mp clear) (limit_eq ▸ room)
  · refine (offerRecord_dropped (mt pending_iff.mp clear) (limit_eq ▸ full)).trans ?_
    rw [drop_eq', told_eq dropped rfl]
  · refine (offerRecord_placed (pending_iff.mpr lost) (limit_eq ▸ room)).trans ?_
    refine told_eq _ ?_ _
    unfold Journal.joined
    dsimp only
    split <;> rfl
  · refine (offerRecord_lost (pending_iff.mpr lost) (limit_eq ▸ full)).trans ?_
    rw [drop_eq']
  · simp only [told]
    rw [port_setFlagAt, if_pos (by fin_cases c <;> decide)]
    rfl

end Sys2Proof.Proofs
end

section
/-! What the events of a millisecond tick leave of the time base, the slots, the board and the sender: R176. -/

namespace Sys2Proof.Machine

variable {s t u : State}

/-! ## The part that the blocks outside the sender and the time base leave alone -/

/-- The time base, the slots, the board, and the sender but for a unit that begins. -/
structure Outside (s t : State) : Prop where
  time : t.time = s.time
  slots : t.slots = s.slots
  board : t.board = s.board
  resumeDue : t.journal.resumeDue = s.journal.resumeDue
  sending : s.journal.unit ≠ none → t.journal.unit = s.journal.unit ∧ t.journal.lineByte = s.journal.lineByte ∧
    t.journal.bytesSent = s.journal.bytesSent

theorem Outside.refl (s : State) : Outside s s := ⟨rfl, rfl, rfl, rfl, fun _ => ⟨rfl, rfl, rfl⟩⟩

theorem Outside.trans (h : Outside s t) (k : Outside t u) : Outside s u where
  time := k.time.trans h.time
  slots := k.slots.trans h.slots
  board := k.board.trans h.board
  resumeDue := k.resumeDue.trans h.resumeDue
  sending busy := by
    obtain ⟨unit, line, sent⟩ := h.sending busy
    obtain ⟨unit', line', sent'⟩ := k.sending (unit ▸ busy)
    exact ⟨unit'.trans unit, line'.trans line, sent'.trans sent⟩

theorem Outside.after (k : Outside t u) (h : Outside s t) : Outside s u := h.trans k

theorem Outside.ofBase (b : Base s t) : Outside s t := ⟨b.time, b.slots, b.board, b.resumeDue, b.sending⟩

theorem Outside.foldl {α : Type} {f : State → α → State} (each : ∀ s x, Outside s (f s x)) (l : List α) (s : State) :
    Outside s (l.foldl f s) := by
  induction l generalizing s with
  | nil => exact .refl s
  | cons x l ih => exact (each s x).trans (ih _)

theorem outside_offer (s : State) (r : JournalRecord) : Outside s (offer s r) := .ofBase (offer_keeps s r).toBase

theorem outside_setFlagAt (f : EventFlag) (l : List Console) (s : State) : Outside s (setFlagAt f l s) :=
  .ofBase (setFlagAt_keeps f l s).toBase

theorem outside_systemPoint (s : State) (p : PointNo) (i : Input) : Outside s (systemPoint s p i) :=
  .ofBase (systemPoint_keeps s p i).toBase

theorem outside_reevaluateAll (s : State) (l : List AreaNo) : Outside s (reevaluateAll s l) :=
  .ofBase (reevaluateAll_kept s l).toBase

/-! ## The events of a tick that act on other blocks -/

theorem outside_chirpEnd (s : State) (c : Console) : Outside s (chirpEnd c s) := by
  unfold chirpEnd
  split
  · exact { Outside.refl s with }
  · exact .refl s

theorem outside_decayArea (s : State) (a : AreaNo) : Outside s (decayArea s a) := by
  unfold decayArea
  dsimp only
  split
  · have told (x : State) : Outside x (judgeHold (setFlagInScope .flood x a) a) :=
      .ofBase ((judgeHold_seq ..).after (setFlagInScope_seq ..)).toKept.toBase
    exact (told _).after ((outside_offer ..).after { Outside.refl s with })
  · exact { Outside.refl s with }

theorem outside_decayAll (s : State) : Outside s (decayAll s) := .foldl outside_decayArea _ s

theorem outside_lapseRecord (s : State) (r : RecordNo) : Outside s (lapseRecord s r) := by
  unfold lapseRecord
  dsimp only
  split
  · split
    · exact (Outside.ofBase (endRecord_base ..)).after { Outside.refl s with }
    · exact { Outside.refl s with }
  · exact .refl s

theorem outside_expireDue (s : State) : Outside s (expireDue s) := by
  refine .foldl (fun s e => ?_) _ s
  exact (Outside.ofBase (shelfReturn_seq ..).toKept.toBase).after ((outside_offer ..).after { Outside.refl s with })

theorem outside_consoleAbsent (s : State) : Outside s (consoleAbsent s) := by
  unfold consoleAbsent
  split
  · next c _ =>
    unfold becomeAbsent
    dsimp only
    have told (x : State) (r : JournalRecord) (l : List Console) (f : State → List AreaNo) : Outside s
        (reevaluateAll (setFlagAt .presence l (offer (s.setDesk c { s.desk c with presence := .absent s.time.runClock }) r))
          (f (setFlagAt .presence l (offer (s.setDesk c { s.desk c with presence := .absent s.time.runClock }) r)))) :=
      (outside_reevaluateAll ..).after <| (outside_setFlagAt ..).after <| (outside_offer ..).after { Outside.refl s with }
    split
    · exact told s _ _ (areasOfConsole · c)
    · exact (outside_systemPoint ..).after (told s _ _ (areasOfConsole · c))
  · exact .refl s

theorem outside_linkLost (s : State) : Outside s (linkLost s) := by
  unfold linkLost
  split
  · have stale (v : Vector Point 512) (w : Vector Area 24) (x : Receiver) :
        Outside s { s with points := v, areas := w, receiver := x } := { Outside.refl s with }
    rw [loseLink_eq]
    exact (outside_systemPoint ..).after ((outside_setFlagAt ..).after ((outside_offer ..).after (stale ..)))
  · exact .refl s

theorem outside_escalate (s : State) : Outside s (escalate s) := by
  unfold escalate
  split
  · exact .ofBase (escalateArea_kept ..).toBase
  · exact .refl s

theorem outside_deskAckPress (d : Console) (s : State) : Outside s (deskAckPress d s) := by
  have debounced : Outside s (debounce s d .ack .pressed) := { Outside.refl s with }
  unfold deskAckPress ackPress
  split
  · split
    · exact (outside_offer ..).after debounced
    · split
      · exact debounced
      · exact (Outside.ofBase (ackPoints_seq ..).toKept.toBase).after debounced
  · exact .refl s

theorem outside_deskEvents (s : State) (d : Console) : Outside s (deskEvents s d) := by
  have released (b : Button) (s : State) : Outside s (deskButtonRelease d b s) := by
    unfold deskButtonRelease
    split
    · exact { Outside.refl s with }
    · exact .refl s
  have testReleased (s : State) : Outside s (deskTestRelease d s) := by
    unfold deskTestRelease
    split
    · exact { Outside.refl s with }
    · exact .refl s
  have testPressed (s : State) : Outside s (deskTestPress d s) := by
    unfold deskTestPress
    split
    · exact { Outside.refl s with }
    · exact .refl s
  have silenced (s : State) : Outside s (deskSilencePress d s) := by
    unfold deskSilencePress
    split
    · exact { Outside.refl s with }
    · exact .refl s
  exact (released ..).after <| (released ..).after <| (testReleased _).after <| (testPressed _).after <|
    (silenced _).after (outside_deskAckPress d s)

/-! ## The seconds tick and the lapses, which also write what the time base still owes -/

/-- The state with what its time base still owes a seconds tick written: the tick itself, the sender's step, and the
record at which the counts stand. -/
def State.owes (s : State) (seconds filler : Bool) (rest : Option TickRest) : State :=
  { s with time := { s.time with secondsDue := seconds, fillerDue := filler, rest := rest } }

theorem owes_self (s : State) : s.owes s.time.secondsDue s.time.fillerDue s.time.rest = s := rfl

theorem Outside.owes (h : Outside s t) (seconds filler : Bool) (rest : Option TickRest) :
    Outside (s.owes seconds filler rest) (t.owes seconds filler rest) where
  time := by simp only [State.owes, h.time]
  slots := h.slots
  board := h.board
  resumeDue := h.resumeDue
  sending := h.sending

/-- R89: the counts change what is still owed of the tick's records alone. -/
theorem outside_countRecords (last : Bool) (l : List RecordNo) (s : State) :
    ∃ rest, Outside (s.owes s.time.secondsDue s.time.fillerDue rest) (countRecords last l s) ∧
      ∀ x, rest = some x → x.record ∈ l := by
  induction l generalizing s with
  | nil =>
    refine ⟨none, ?_, nofun⟩
    unfold countRecords
    dsimp only
    split
    · exact outside_decayAll _
    · exact .refl _
  | cons r l ih =>
    unfold countRecords
    dsimp only
    split
    · split
      · exact ⟨some ⟨r, last⟩, .refl _, fun x h => by cases h; exact List.mem_cons_self⟩
      · obtain ⟨rest, out, later⟩ := ih (s.setRecord r { s.record r with timer := (s.record r).timer - 1 })
        exact ⟨rest, out.after { Outside.refl _ with }, fun x h => List.mem_cons_of_mem _ (later x h)⟩
    · obtain ⟨rest, out, later⟩ := ih s
      exact ⟨rest, out, fun x h => List.mem_cons_of_mem _ (later x h)⟩

theorem outside_fillerStep (s : State) : Outside (s.owes s.time.secondsDue false s.time.rest) (fillerStep s) := by
  have step {j : Journal} (resumeDue : j.resumeDue = s.journal.resumeDue)
      (sending : s.journal.unit ≠ none → j.unit = s.journal.unit ∧ j.lineByte = s.journal.lineByte ∧
        j.bytesSent = s.journal.bytesSent) :
      Outside (s.owes s.time.secondsDue false s.time.rest)
        { s with time := { s.time with fillerDue := false }, journal := j } := ⟨rfl, rfl, rfl, resumeDue, sending⟩
  unfold fillerStep
  dsimp only
  split
  · exact step rfl fun _ => ⟨rfl, rfl, rfl⟩
  · next idle =>
    split
    · refine step rfl fun busy => absurd ?_ idle
      simp [Journal.busy, Option.isSome_iff_ne_none, busy]
    · split
      · exact step rfl fun _ => ⟨rfl, rfl, rfl⟩
      · exact .refl _

theorem outside_senderStep (s : State) :
    ∃ filler, Outside (s.owes s.time.secondsDue filler s.time.rest) (senderStep s) := by
  unfold senderStep
  split
  · exact ⟨false, outside_fillerStep s⟩
  · exact ⟨s.time.fillerDue, .refl s⟩

theorem outside_secondsWork (first : Bool) (s : State) :
    ∃ rest, Outside (s.owes s.time.secondsDue s.time.fillerDue rest) (secondsWork first s) := by
  have decayed : Outside s (if first then s else decayAll s) := by
    split
    · exact .refl s
    · exact outside_decayAll s
  obtain ⟨rest, out, -⟩ := outside_countRecords first allFour (if first then s else decayAll s)
  refine ⟨rest, Outside.after out ?_⟩
  rw [decayed.time]
  exact decayed.owes ..

/-- R176: a seconds tick is owed no more; its sender's step may be, and the counts may stand at a record. -/
theorem outside_secondsTick (first : Bool) (s : State) :
    ∃ filler rest, Outside (s.owes false filler rest) (secondsTick first s) := by
  have sent {t : State} {rest : Option TickRest} (out : Outside (s.owes false s.time.fillerDue rest) t) :
      ∃ filler, Outside (s.owes false filler rest) (senderStep t) := by
    obtain ⟨filler, step⟩ := outside_senderStep t
    refine ⟨filler, step.after ?_⟩
    rw [out.time]
    exact out.owes ..
  unfold secondsTick
  dsimp only
  split
  · split
    · obtain ⟨rest, work⟩ := outside_secondsWork first { s with time := { s.time with secondsDue := false } }
      obtain ⟨filler, out⟩ := sent work
      exact ⟨filler, rest, out⟩
    · obtain ⟨filler, out⟩ := sent (.refl _)
      exact ⟨filler, s.time.rest, out⟩
  · next off =>
    refine ⟨s.time.fillerDue, s.time.rest, ?_⟩
    rw [← Bool.eq_false_iff.mpr off, owes_self]
    exact .refl s

theorem outside_fillerEvent (s : State) : Outside (s.owes s.time.secondsDue false s.time.rest) (fillerEvent s) := by
  unfold fillerEvent
  split
  · exact outside_fillerStep s
  · next off =>
    rw [← Bool.eq_false_iff.mpr off, owes_self]
    exact .refl s

/-- R89: a lapse goes on to a later record, or to none. -/
theorem outside_hoLapse {k : Nat} (late : ∀ x, s.time.rest = some x → k ≤ x.record.val) :
    ∃ rest, Outside (s.owes s.time.secondsDue s.time.fillerDue rest) (hoLapse s) ∧
      ∀ x, rest = some x → k + 1 ≤ x.record.val := by
  unfold hoLapse
  split
  · next x stands =>
    obtain ⟨rest, out, later⟩ := outside_countRecords x.decayLast (recordsAfter x.record) (lapseRecord s x.record)
    have lapsed := outside_lapseRecord s x.record
    refine ⟨rest, out.after ?_, fun y h => ?_⟩
    · rw [lapsed.time]
      exact lapsed.owes ..
    · have after : x.record < y.record := by simpa using (List.mem_filter.mp (later y h)).2
      have := late x stands
      rw [Fin.lt_def] at after
      omega
  · next none' => exact ⟨none, none' ▸ .refl s, nofun⟩

/-- R89: four lapses take a tick past its four records. -/
theorem outside_fourLapses (s : State) : Outside (s.owes s.time.secondsDue s.time.fillerDue none)
    (hoLapse (hoLapse (hoLapse (hoLapse s)))) := by
  have next {k : Nat} {t : State} {rest : Option TickRest}
      (out : Outside (s.owes s.time.secondsDue s.time.fillerDue rest) t) (late : ∀ x, rest = some x → k ≤ x.record.val) :
      ∃ rest', Outside (s.owes s.time.secondsDue s.time.fillerDue rest') (hoLapse t) ∧
        ∀ x, rest' = some x → k + 1 ≤ x.record.val := by
    obtain ⟨rest', lapse, later⟩ := outside_hoLapse (s := t) (k := k) (by rw [out.time]; exact late)
    refine ⟨rest', lapse.after ?_, later⟩
    rw [out.time]
    exact out.owes ..
  obtain ⟨_, out1, late1⟩ := next (k := 0) (Outside.refl s) fun x _ => Nat.zero_le _
  obtain ⟨_, out2, late2⟩ := next out1 late1
  obtain ⟨_, out3, late3⟩ := next out2 late2
  obtain ⟨rest, out4, late4⟩ := next out3 late3
  have past : rest = none := Option.eq_none_iff_forall_ne_some.mpr fun x h => by
    have := late4 x h
    omega
  exact past ▸ out4

/-! ## The whole of a tick's events (R176) -/

/-- R158: the waiting byte's start depends on the sender alone. -/
theorem Outside.readyResume (h : Outside s t) : Outside (readyResume s) (readyResume t) := by
  unfold Machine.readyResume
  rw [h.resumeDue]
  split
  · refine ⟨h.time, h.slots, h.board, rfl, fun busy => ?_⟩
    obtain ⟨unit, line, sent⟩ := h.sending busy
    refine ⟨unit, ?_, sent⟩
    simp only [Journal.resumeSeen, Journal.waiting, unit, line] <;> rfl
  · exact h

theorem readyResume_owes (s : State) (seconds filler : Bool) (rest : Option TickRest) :
    readyResume (s.owes seconds filler rest) = (readyResume s).owes seconds filler rest := by
  unfold readyResume State.owes
  dsimp only
  split <;> rfl

/-- R176: every event of the tick past that is still due, up to the board frame's end. -/
theorem closeOut_eq (s : State) :
    ∃ t, Outside ((readyResume (slotBoundary s)).owes false false none) t ∧ closeOut s = boardFrame t := by
  obtain ⟨filler, rest, ticked⟩ := outside_secondsTick false (slotBoundary s)
  have filled : Outside ((slotBoundary s).owes false false rest) (fillerEvent (secondsTick false (slotBoundary s))) := by
    refine (outside_fillerEvent _).after ?_
    rw [ticked.time]
    exact ticked.owes ..
  have resumed := filled.readyResume
  rw [readyResume_owes] at resumed
  have lapsed := outside_fourLapses (readyResume (fillerEvent (secondsTick false (slotBoundary s))))
  rw [resumed.time] at lapsed
  have owed := lapsed.after (resumed.owes ..)
  unfold closeOut
  refine ⟨_, ?_, rfl⟩
  exact (Outside.foldl outside_deskEvents _ _).after <| (outside_linkLost _).after <|
    (Outside.foldl (fun s _ => outside_escalate s) _ _).after <| (outside_consoleAbsent _).after <|
    (outside_consoleAbsent _).after <| (outside_consoleAbsent _).after <| (outside_consoleAbsent _).after <|
    (outside_expireDue _).after <| (Outside.foldl outside_chirpEnd _ _).after owed

end Sys2Proof.Machine
end

section
/-! The journal sender's events, and the bytes it sends: R151, R158, R159, R163. -/

namespace Sys2Proof.Machine

variable {s : State} {j : Journal}

/-! ## The millisecond tick (R158) -/

theorem boardFrame_journal (s : State) : (boardFrame s).journal = s.journal := by
  have boundary : (slotBoundary s).journal = s.journal := by unfold slotBoundary; split <;> rfl
  unfold boardFrame
  dsimp only
  split
  · split <;> exact boundary
  · rfl

/-- R158: what a tick's events before its own count leave of a unit in transmission whose byte waits. -/
theorem closeOut_waiting {u : JournalUnit} (unit : s.journal.unit = some u) (waits : s.journal.lineByte = .none) :
    (closeOut s).journal.unit = some u ∧ (closeOut s).journal.bytesSent = s.journal.bytesSent ∧
      (closeOut s).journal.lineByte = if s.journal.resumeDue then .unit else .none := by
  obtain ⟨t, out, closed⟩ := closeOut_eq s
  have boundary : (slotBoundary s).journal = s.journal := by unfold slotBoundary; split <;> rfl
  have resumed : ((readyResume (slotBoundary s)).owes false false none).journal =
      if s.journal.resumeDue then s.journal.resumeSeen else s.journal := by
    unfold readyResume State.owes
    rw [boundary]
    split
    · rfl
    · exact boundary
  have unit' : (if s.journal.resumeDue then s.journal.resumeSeen else s.journal).unit = some u := by split <;> exact unit
  have sending := out.sending
  rw [resumed, unit'] at sending
  obtain ⟨same, line, sent⟩ := sending (Option.some_ne_none u)
  rw [closed, boardFrame_journal, same, line, sent]
  refine ⟨rfl, by split <;> rfl, ?_⟩
  split
  · simp [Journal.resumeSeen, Journal.waiting, unit, waits]
  · exact waits

/-- R158: the byte sent next is the one that the number of bytes sent names. -/
theorem nextByte_of_unit {u : JournalUnit} {x : JournalRecord} (unit : j.unit = some u)
    (record : (u = .record ∧ j.fifo.head? = some x) ∨ u = .filler x) : j.nextByte = x.bytes[j.bytesSent]? := by
  unfold Journal.nextByte Journal.unitRecord
  rcases record with ⟨rfl, head⟩ | rfl
  · simp [unit, head]
  · simp [unit]

/-- R151: the check byte makes the sixteen sum to 0. -/
theorem byteSum_bytes (x : JournalRecord) : byteSum x.bytes = 0#8 := by
  unfold JournalRecord.bytes byteSum
  rw [List.foldl_append]
  exact BitVec.add_right_neg _

/-! ## The end of a byte and of a unit (R158) -/

theorem resume_busy {u : JournalUnit} (unit : j.unit = some u) (idle : j.lineByte = .none) :
    j.resume = { j with lineByte := if j.ready then .unit else .none } := by
  unfold Journal.resume
  simp only [unit, idle, Option.isSome_some, decide_true, Bool.true_and]
  split
  · rfl
  · rw [← idle, ← unit]

theorem resume_empty (unit : j.unit = none) : j.resume = j :=
  if_neg (by simp [unit])

theorem journalByteSent_more {ready : Bool} (line : s.journal.lineByte = .unit) (more : s.journal.bytesSent < 15) :
    journalByteSent ready s = { s with journal := { s.journal with
      ready := ready, bytesSent := s.journal.bytesSent + 1, lineByte := .none }.resume } := by
  unfold journalByteSent
  simp only [line, more, if_true]

theorem journalByteSent_tail {ready : Bool} {b : Byte} (line : s.journal.lineByte = .tail b) :
    journalByteSent ready s = { s with journal := { s.journal with ready := ready, lineByte := .none }.resume } := by
  unfold journalByteSent
  simp only [line]

theorem journalByteSent_other {ready : Bool}
    (other : s.journal.lineByte = .none ∨ (s.journal.lineByte = .unit ∧ 15 ≤ s.journal.bytesSent)) :
    journalByteSent ready s = readyChange ready s := by
  unfold journalByteSent
  rcases other with idle | ⟨line, last⟩
  · simp only [idle]
  · simp only [line, Nat.not_lt.mpr last, if_false]

theorem journalRecordSent_other {ready : Bool} (other : s.journal.lineByte ≠ .unit ∨ s.journal.bytesSent ≠ 15) :
    journalRecordSent ready s = readyChange ready s := by
  refine if_neg ?_
  rw [Bool.and_eq_true, decide_eq_true_eq, decide_eq_true_eq]
  rintro ⟨line, last⟩
  exact other.elim (· line) (· last)

theorem journalRecordSent_stopping {ready : Bool} (line : s.journal.lineByte = .unit) (last : s.journal.bytesSent = 15)
    (stopping : s.journal.stream = .stopping) : journalRecordSent ready s = journalEvent { s with
      journal := { { s.journal with ready := ready }.leave with stream := .stopped } } := by
  unfold journalRecordSent
  simp [line, last, stopping]

theorem journalRecordSent_streaming {ready : Bool} (line : s.journal.lineByte = .unit) (last : s.journal.bytesSent = 15)
    (streaming : s.journal.stream = .streaming) : journalRecordSent ready s = { s with
      journal := { s.journal with ready := ready }.leave.kick } := by
  unfold journalRecordSent
  simp [line, last, streaming]

theorem leave_eq {u : JournalUnit} (unit : j.unit = some u) : j.leave = { j with
    unit := none, bytesSent := 0, lineByte := .none, fifo := if u = .record then j.fifo.tail else j.fifo } := by
  unfold Journal.leave
  simp only [unit, Option.some.injEq]

/-! ## The seconds tick that begins a FILLER (R159) -/

theorem fillerStep_begins (streaming : s.journal.stream = .streaming) (empty : s.journal.fifo = [])
    (unit : s.journal.unit = none) (quiet : s.journal.quiet = true) (seen : s.journal.readySeen = true) :
    fillerStep s = { s with
      time := { s.time with fillerDue := false }
      journal := s.journal.beginAt true (.filler (lossRecord s .filler .routine 0 0)) } := by
  have idle : ¬ s.journal.busy = true := by simp [Journal.busy, empty, unit]
  have begins : fillerBegins s = true := by
    simp [fillerBegins, Journal.idleStreaming, streaming, empty, unit, quiet, seen]
  unfold fillerStep
  dsimp only
  rw [if_neg idle, if_pos begins, seen]

end Sys2Proof.Machine

namespace Sys2Proof.Proofs

open Sys2Proof.Machine

/-- Settles O40. -/
theorem senderEvents : Obligations.SenderEvents := by
  intro ready s u j next left again filler
  have gone (unit : j.unit = some u) : { j with ready := ready }.leave = left := leave_eq (by exact unit)
  have journalOf {k l : Journal} (same : k = l) : { s with journal := k } = { s with journal := l } := by rw [same]
  refine ⟨fun unit => ⟨fun line more => ?_, fun b line => ?_, fun line last => ⟨fun stopping => ?_, fun streaming => ?_⟩,
    fun waits => ⟨fun due => ?_, ?_⟩⟩, fun b unit line => ?_, fun other => congrArg event (journalByteSent_other other),
    fun other => congrArg event (journalRecordSent_other other), fun off => ?_,
    fun due streaming empty unit quiet seen => ?_, fun x => ⟨rfl, byteSum_bytes x, rfl, fun record unit => nextByte_of_unit unit record⟩,
    fun unit => ?_, fun line => ?_, fun line => ?_, fun b line => ?_, rfl⟩
  · exact congrArg event ((journalByteSent_more line more).trans (journalOf (resume_busy (by exact unit) rfl)))
  · exact congrArg event ((journalByteSent_tail line).trans (journalOf (resume_busy (by exact unit) rfl)))
  · refine congrArg event ((journalRecordSent_stopping line last stopping).trans (congrArg journalEvent (journalOf ?_)))
    exact congrArg (fun k : Journal => { k with stream := .stopped }) (gone unit)
  · refine congrArg event ((journalRecordSent_streaming line last streaming).trans (journalOf ?_))
    refine (congrArg Journal.kick (gone unit)).trans ?_
    rw [kick_eq]
    by_cases empty : left.fifo = []
    · rw [if_pos empty, if_neg fun h => h.2.2 empty]
    · rw [if_neg empty, if_pos ⟨streaming, rfl, empty⟩]
      simp [Journal.headBegun, left, again, next]
  · refine congrArg event ((if_pos due).trans (journalOf ?_))
    simp [Journal.resumeSeen, Journal.waiting, j, unit, waits]
  · obtain ⟨unit', sent, line⟩ := closeOut_waiting (s := s) unit waits
    refine ⟨settle (advance ready (closeOut s)), rfl, ?_⟩
    generalize closeOut s = t at unit' sent line ⊢
    refine ⟨unit', sent, line, ?_⟩
    change (ready && t.journal.waiting) = _
    rw [Journal.waiting, unit', line]
    cases j.resumeDue <;> rfl
  · exact congrArg event ((journalByteSent_tail line).trans (journalOf (resume_empty (by exact unit))))
  · exact congrArg event (if_neg (by rw [show s.journal.resumeDue = false from off]; exact Bool.false_ne_true))
  · refine congrArg event ((if_pos due).trans ((fillerStep_begins streaming empty unit quiet seen).trans ?_))
    simp only [Journal.beginAt, Bool.and_true, decide_eq_true_eq]
    rfl
  · simp only [Journal.nextByte, Journal.unitRecord, unit, Option.bind_none]
  · simp only [Journal.lineOut, line]
  · simp only [Journal.lineOut, line]
  · simp only [Journal.lineOut, line]

end Sys2Proof.Proofs
end

section
/-! The millisecond tick, the slot boundary and the end of a chirp: R127, R128, R132, R176. -/

namespace Sys2Proof.Machine

variable {s : State}

/-! ## What the tick counts -/

theorem TimeBase.tick_eq (x : TimeBase) (range : x.milli < 1000) : x.tick = { x with
    runClock := x.runClock + 1#32, milli := (x.milli + 1) % 1000, divideCount := 0
    secondsDue := decide (x.milli = 999) || x.secondsDue, fillerDue := decide (x.milli = 999) || x.fillerDue } := by
  unfold TimeBase.tick
  by_cases last : x.milli = 999
  · rw [if_pos last]
    simp [last]
  · rw [if_neg last, Nat.mod_eq_of_lt (by omega)]
    simp [last]

theorem SlotGenerator.tick_eq (x : SlotGenerator) (range : x.count < 125) :
    x.tick = ⟨x.slot, (x.count + 1) % 125, decide (x.count = 124) || x.boundaryDue⟩ := by
  unfold SlotGenerator.tick
  by_cases last : x.count = 124
  · rw [if_pos last]
    simp [last]
  · rw [if_neg last, Nat.mod_eq_of_lt (by omega)]
    simp [last]

theorem Board.tick_eq (b : Board) (range : b.count < 35) (sending : b.scanner ≠ .stopped) :
    b.tick = { b with
      chain := b.tick.chain, count := (b.count + 1) % 35, frameDue := decide (b.count = 34) || b.frameDue } := by
  unfold Board.tick
  rw [if_neg sending]
  dsimp only
  by_cases last : b.count = 34
  · rw [if_pos last]
    simp only [last]
    rfl
  · rw [if_neg last, show (b.count + 1) % 35 = b.count + 1 from Nat.mod_eq_of_lt (by omega)]
    split <;> simp [last]

/-- R132: the words of a line period pass into the chain from its near end on. -/
theorem tick_chain_get {b : Board} (sending : b.scanner ≠ .stopped) (line : b.count % 5 = 4) (sent : b.count < 30)
    (near : Fin 32) : b.tick.chain[near] =
      if 8 ≤ near.val then b.chain.toList.getD (near.val - 8) .blank
      else if b.count < 10 then .blank
      else b.words.toList.getD (8 * (5 - b.count / 5) + near.val) .blank := by
  have eight : (lineWords b.words (b.count / 5)).reverse.length = 8 := by
    rw [lineWords]
    split
    · simp
    · rw [if_pos (by omega)]
      simp
      omega
  rw [tick_chain, if_pos ⟨sending, line⟩, shiftInto, table32_get]
  split
  · next far => rw [List.getD_append_right _ _ _ _ (eight ▸ far), eight]
  · next close =>
    rw [List.getD_append _ _ _ _ (by omega)]
    unfold lineWords
    split
    · next lead =>
      rw [if_pos (by omega), List.reverse_replicate, List.getD_eq_getElem?_getD, List.getElem?_replicate]
      split <;> rfl
    · next later =>
      rw [if_pos (by omega), if_neg (by omega), List.reverse_reverse, List.getD_eq_getElem?_getD,
        List.getElem?_take_of_lt (by omega), List.getElem?_drop, ← List.getD_eq_getElem?_getD]

/-- R132: between the ends of line periods, and in the latch line, the chain stays. -/
theorem tick_chain_still {b : Board} (range : b.count < 35) (still : b.count % 5 ≠ 4 ∨ 30 ≤ b.count) :
    b.tick.chain = b.chain := by
  rw [tick_chain]
  split
  · next line =>
    have latch : 30 ≤ b.count := still.resolve_left fun mid => mid line.2
    have empty : lineWords b.words (b.count / 5) = [] := by rw [lineWords, if_neg (by omega), if_neg (by omega)]
    rw [empty, shiftInto_nil]
  · rfl

/-! ## What is left when the tick counts -/

theorem slotBoundary_slots (s : State) : (slotBoundary s).slots =
    ⟨if s.slots.boundaryDue then (s.slots.slot + 1) % 16 else s.slots.slot, s.slots.count, false⟩ := by
  unfold slotBoundary
  split
  · rfl
  · next off =>
    rw [← Bool.eq_false_iff.mpr off]

theorem slotBoundary_eq (s : State) : slotBoundary s = { s with slots := (slotBoundary s).slots } := by
  unfold slotBoundary
  split <;> rfl

theorem readyResume_eq (s : State) : readyResume s = { s with journal := (readyResume s).journal } := by
  unfold readyResume
  split <;> rfl

theorem boardFrame_time (s : State) : (boardFrame s).time = s.time := by
  unfold boardFrame
  dsimp only
  split
  · split <;> (rw [slotBoundary_eq]; rfl)
  · rfl

theorem boardFrame_slots (off : s.slots.boundaryDue = false) : (boardFrame s).slots = s.slots := by
  have same : slotBoundary s = s := if_neg (by rw [off]; exact Bool.false_ne_true)
  unfold boardFrame
  dsimp only
  rw [same]
  split
  · split <;> rfl
  · rfl

theorem boardFrame_still (off : s.board.frameDue = false) : boardFrame s = s :=
  if_neg (by rw [off]; exact Bool.false_ne_true)

/-- R176: the time base, the slots and the board once the events of the tick past have come. -/
theorem closeOut_counts (s : State) :
    (closeOut s).time = { s.time with secondsDue := false, fillerDue := false, rest := none } ∧
      (closeOut s).slots = (slotBoundary s).slots ∧ (s.board.frameDue = false → (closeOut s).board = s.board) := by
  obtain ⟨t, out, closed⟩ := closeOut_eq s
  have time : t.time = { s.time with secondsDue := false, fillerDue := false, rest := none } := by
    rw [out.time, readyResume_eq, slotBoundary_eq]
    rfl
  have slots : t.slots = (slotBoundary s).slots := by
    rw [out.slots, readyResume_eq]
    rfl
  have board : t.board = s.board := by
    rw [out.board, readyResume_eq, slotBoundary_eq]
    rfl
  rw [closed]
  refine ⟨(boardFrame_time t).trans time, (boardFrame_slots ?_).trans slots, fun off => ?_⟩
  · rw [slots, slotBoundary_slots]
  · rw [boardFrame_still (board ▸ off), board]

end Sys2Proof.Machine

namespace Sys2Proof.Proofs

open Sys2Proof.Machine

/-- Settles O51. -/
theorem tickSlotAndChirp : Obligations.TickSlotAndChirp := by
  intro ready c d s
  refine ⟨fun ⟨_, slotRange, boardRange, secondRange⟩ => ⟨settle (advance ready (closeOut s)), rfl, ?_⟩,
    fun due => congrArg event (if_pos due), fun running past => ?_⟩
  · obtain ⟨time, slots, board⟩ := closeOut_counts s
    rw [slotBoundary_slots] at slots
    generalize closeOut s = x at time slots board ⊢
    have sound (off : s.board.frameDue = false) : (settle (advance ready x)).board = s.board.tick.drive := by
      rw [← board off]
      rfl
    refine ⟨?_, ?_, rfl, rfl, ?_, fun off stopped => ?_, fun off sending => ?_⟩
    · change x.time.tick = _
      rw [time, TimeBase.tick_eq _ (by exact secondRange)]
      simp
    · change x.slots.tick = _
      rw [slots, SlotGenerator.tick_eq _ (by exact slotRange)]
      simp
    · change (ready && x.journal.waiting) = true ↔ ready = true ∧ x.journal.unit ≠ none ∧ x.journal.lineByte = .none
      simp [Journal.waiting, Option.isSome_iff_ne_none]
    · rw [sound off, Board.tick, if_pos stopped]
      rfl
    · intro n
      rw [sound off]
      refine ⟨?_, fun still => ?_, fun line sent near => tick_chain_get sending line sent near⟩
      · have counted := Board.tick_eq _ boardRange sending
        rw [off, Bool.or_false] at counted
        exact congrArg (fun b : Board => { b with
          data := s.board.tick.drive.data, latch := s.board.tick.drive.latch }) counted
      · exact tick_chain_still boardRange still
  · have due : chirpDue s c = true := by
      rw [chirpDue, running]
      exact decide_eq_true past
    exact congrArg event (if_pos due)

end Sys2Proof.Proofs
end

section
/-! The seconds tick, its counts of the records' timers, and the lapse: R75, R80, R89, R159. -/

namespace Sys2Proof.Machine

variable {s : State}

/-! ## The counts of one tick (R89) -/

theorem counting_iff (h : HoRecord) :
    h.counting = true ↔ h.phase = .offered ∨ (h.phase = .reviewing ∧ h.held = false) := by
  simp [HoRecord.counting]

/-- R89: the timer of a record that counts, one less. -/
def countOne (s : State) (r : RecordNo) : State :=
  if (s.record r).counting then s.setRecord r { s.record r with timer := (s.record r).timer - 1 } else s

theorem record_countOne (s : State) (r m : RecordNo) : (countOne s r).record m =
    if r = m ∧ (s.record m).counting = true then { s.record m with timer := (s.record m).timer - 1 } else s.record m := by
  unfold countOne
  by_cases same : r = m
  · subst same
    split <;> simp [*]
  · split <;> simp [State.record_setRecord, same]

theorem countOne_eq (s : State) (r : RecordNo) : countOne s r = { s with records := (countOne s r).records } := by
  unfold countOne
  split <;> rfl

/-- R89: what the counts of a list of records, none of which lapses, leave of each. -/
theorem record_countAll {l : List RecordNo} (once : l.Nodup) (s : State) (m : RecordNo) : (l.foldl countOne s).record m =
    if m ∈ l ∧ (s.record m).counting = true then { s.record m with timer := (s.record m).timer - 1 } else s.record m := by
  induction l generalizing s with
  | nil => simp
  | cons r l ih =>
    obtain ⟨fresh, once⟩ := List.nodup_cons.mp once
    rw [List.foldl_cons, ih once, record_countOne]
    by_cases same : r = m
    · subst same
      simp [fresh]
    · simp [same, Ne.symm same]

theorem countAll_eq (l : List RecordNo) (s : State) :
    l.foldl countOne s = { s with records := (l.foldl countOne s).records } := by
  induction l generalizing s with
  | nil => rfl
  | cons r l ih =>
    rw [List.foldl_cons, ih, countOne_eq]

/-- R89: the counts of a list of records, as the table of records that they leave. -/
theorem countAll_of {l : List RecordNo} (once : l.Nodup) {v : Vector HoRecord 4}
    (hit : ∀ m : RecordNo, m ∈ l → (s.record m).counting = true →
      v[m] = { s.record m with timer := (s.record m).timer - 1 })
    (miss : ∀ m : RecordNo, ¬ (m ∈ l ∧ (s.record m).counting = true) → v[m] = s.record m) :
    l.foldl countOne s = { s with records := v } := by
  have table : (l.foldl countOne s).records = v := Vector.ext fun i hi => by
    refine (record_countAll once s ⟨i, hi⟩).trans ?_
    split
    · next counts => exact (hit ⟨i, hi⟩ counts.1 counts.2).symm
    · next other => exact (miss ⟨i, hi⟩ other).symm
  rw [countAll_eq, table]

/-- R89: records whose counts bring no timer to 0 are counted one after another. -/
theorem countRecords_append {l : List RecordNo} (once : l.Nodup) (last : Bool) (rest : List RecordNo)
    (running : ∀ m ∈ l, (s.record m).counting = true → 2 ≤ (s.record m).timer) :
    countRecords last (l ++ rest) s = countRecords last rest (l.foldl countOne s) := by
  induction l generalizing s with
  | nil => rfl
  | cons r l ih =>
    obtain ⟨fresh, once⟩ := List.nodup_cons.mp once
    have step : countRecords last (r :: (l ++ rest)) s = countRecords last (l ++ rest) (countOne s r) := by
      rw [countRecords, countOne]
      split
      · next counts =>
        have := running r List.mem_cons_self counts
        rw [if_neg (by omega)]
      · rfl
    rw [List.cons_append, step, List.foldl_cons]
    refine ih once fun m hm => ?_
    have other : r ≠ m := fun e => fresh (e ▸ hm)
    rw [record_countOne, if_neg fun h => other h.1]
    exact running m (List.mem_cons_of_mem r hm)

/-- R89: the counts stop at a record that its count would end. -/
theorem countRecords_stops {r : RecordNo} (last : Bool) (rest : List RecordNo) (counts : (s.record r).counting = true)
    (ends : (s.record r).timer ≤ 1) :
    countRecords last (r :: rest) s = { s with time := { s.time with rest := some ⟨r, last⟩ } } := by
  rw [countRecords]
  dsimp only
  rw [if_pos counts, if_pos ends]

/-- The records of a number and above, in ascending order. -/
theorem recordsFrom_split : ∀ (lo n : Fin 4), lo ≤ n → ((List.finRange 4).filter fun m => decide (lo.val ≤ m.val)) =
    ((List.finRange 4).filter fun m => decide (lo.val ≤ m.val ∧ m.val < n.val)) ++
      n :: ((List.finRange 4).filter fun m => decide (n.val + 1 ≤ m.val)) := by
  decide

theorem recordsAfter_eq : ∀ n : RecordNo, recordsAfter n = (List.finRange 4).filter fun m => decide (n.val + 1 ≤ m.val) := by
  decide

theorem nodup_records (f : Fin 4 → Bool) : ((List.finRange 4).filter f).Nodup := (List.nodup_finRange 4).filter _

/-! ## The lapse (R89) -/

theorem hoLapse_stands {n : RecordNo} {last : Bool} (stands : s.time.rest = some ⟨n, last⟩) :
    hoLapse s = countRecords last (recordsAfter n) (lapseRecord s n) := by
  rw [hoLapse, stands]

/-! ## The sender's step (R159) -/

theorem fillerStep_busy (busy : s.journal.fifo ≠ [] ∨ s.journal.unit ≠ none) : fillerStep s = { s with
    time := { s.time with fillerDue := false }, journal := { s.journal with quiet := false } } := by
  refine if_pos ?_
  simpa [Journal.busy, Option.isSome_iff_ne_none] using busy

theorem fillerStep_stopped (fifo : s.journal.fifo = []) (unit : s.journal.unit = none)
    (off : s.journal.stream ≠ .streaming) : fillerStep s = { s with time := { s.time with fillerDue := false } } := by
  unfold fillerStep
  simp [Journal.busy, fillerBegins, Journal.idleStreaming, fifo, unit, off]

theorem fillerStep_quietens (fifo : s.journal.fifo = []) (unit : s.journal.unit = none)
    (on : s.journal.stream = .streaming) (first : s.journal.quiet = false ∨ s.journal.readySeen = false) :
    fillerStep s = { s with
      time := { s.time with fillerDue := false }, journal := { s.journal with quiet := true } } := by
  unfold fillerStep
  rcases first with h | h <;> simp [Journal.busy, fillerBegins, Journal.idleStreaming, fifo, unit, on, h]

theorem fillerBegins_iff (s : State) : fillerBegins s = true ↔ s.journal.stream = .streaming ∧ s.journal.fifo = [] ∧
    s.journal.unit = none ∧ s.journal.quiet = true ∧ s.journal.readySeen = true := by
  simp [fillerBegins, Journal.idleStreaming, and_assoc]

theorem senderStep_eq (due : s.time.fillerDue = true) : senderStep s = if fillerBegins s then s else fillerStep s := by
  unfold senderStep
  cases begins : fillerBegins s <;> simp [due]

end Sys2Proof.Machine

namespace Sys2Proof.Proofs

open Sys2Proof.Machine

/-- Settles O52. -/
theorem secondsTickAndLapse : Obligations.SecondsTickAndLapse := by
  intro first s n v lo s1 decays counts down records counted stands h goesOn
  have counting (x : HoRecord) : x.counting = true ↔ counts x := counting_iff x
  have all (t : State) (last : Bool) : countRecords last [] t =
      if last then decays { t with time := { t.time with rest := none } } else { t with time := { t.time with rest := none } } := rfl
  have counts_all {hi : Nat} {l : List RecordNo} (once : l.Nodup) (done : counted hi)
      (mem : ∀ m, m ∈ l ↔ lo ≤ m.val ∧ m.val < hi) : l.foldl countOne s = { s with records := v } := by
    refine countAll_of once (fun m hm c => ?_) fun m other => (done m).2 ?_
    · obtain ⟨low, high⟩ := (mem m).mp hm
      exact ((done m).1 low high ((counting _).mp c)).2
    · rw [mem, counting] at other
      by_contra neither
      push Not at neither
      exact other ⟨⟨neither.1, neither.2.1⟩, neither.2.2⟩
  have running {hi : Nat} {l : List RecordNo} (done : counted hi) (mem : ∀ m, m ∈ l ↔ lo ≤ m.val ∧ m.val < hi) :
      ∀ m ∈ l, (s.record m).counting = true → 2 ≤ (s.record m).timer := fun m hm c =>
    ((done m).1 ((mem m).mp hm).1 ((mem m).mp hm).2 ((counting _).mp c)).1
  refine ⟨fun done => ?_, fun low done c ends => ?_, fun due service => ?_, fun due configuring => ?_, fun last at_ => ?_,
    fun due => ?_⟩
  · have mem (m : RecordNo) : m ∈ records lo ↔ lo ≤ m.val ∧ m.val < 4 := by simp [records, m.isLt]
    have counted' := countRecords_append (rest := []) (nodup_records _) first (running done mem)
    rw [List.append_nil, counts_all (nodup_records _) done mem] at counted'
    exact counted'
  · have mem (m : RecordNo) : m ∈ (List.finRange 4).filter (fun m => decide (lo ≤ m.val ∧ m.val < n.val)) ↔
        lo ≤ m.val ∧ m.val < n.val := by simp
    have counted' := countRecords_append (rest := n :: records (n.val + 1)) (nodup_records _) first (running done mem)
    rw [counts_all (nodup_records _) done mem] at counted'
    have split : records lo = _ := recordsFrom_split ⟨lo, lt_of_le_of_lt low n.isLt⟩ n low
    have same : ({ s with records := v } : State).record n = s.record n := (done n).2 (.inr (.inl (Nat.le_refl _)))
    rw [split]
    refine counted'.trans (countRecords_stops first _ ?_ ?_)
    · rw [same, counting]
      exact c
    · rw [same]
      exact ends
  · have on : s1.inService = true := beq_iff_eq.mpr service
    refine congrArg event ((if_pos due).trans (congrArg senderStep ((if_pos on).trans ?_)))
    rfl
  · have off : ¬ s1.inService = true := by
      simp [State.inService, s1, configuring]
    exact congrArg event ((if_pos due).trans (congrArg senderStep (if_neg off)))
  · have goes {t : State} (lapsed : lapseRecord s n = t) : goesOn t last := by
      refine congrArg event ((hoLapse_stands at_).trans ?_)
      rw [lapsed, recordsAfter_eq]
    refine ⟨fun c => goes (if_neg (mt (counting h).mp c)), fun c more => goes ((if_pos ((counting h).mpr c)).trans ?_),
      fun c one => goes ((if_pos ((counting h).mpr c)).trans ?_)⟩
    · exact if_neg (Nat.not_le.mpr more)
    · exact if_pos (Nat.le_of_eq one)
  · intro j due'
    rw [senderStep_eq due]
    refine ⟨fun busy => ?_, fun fifo unit => ⟨fun off => ?_, fun on first => ?_, fun on quiet seen => ?_⟩⟩
    · exact (if_neg (by rw [fillerBegins_iff]; rintro ⟨-, fifo, unit, -⟩; exact busy.elim (· fifo) (· unit))).trans
        (fillerStep_busy busy)
    · exact (if_neg (by rw [fillerBegins_iff]; exact fun b => off b.1)).trans (fillerStep_stopped fifo unit off)
    · refine (if_neg ?_).trans (fillerStep_quietens fifo unit on first)
      rw [fillerBegins_iff]
      rintro ⟨-, -, -, quiet, seen⟩
      rcases first with h | h
      · exact absurd (quiet.symm.trans h) (by decide)
      · exact absurd (seen.symm.trans h) (by decide)
    · exact if_pos ((fillerBegins_iff s).mpr ⟨on, fifo, unit, quiet, seen⟩)

end Sys2Proof.Proofs
end

section
/-! The board frame's end, the lamp words, the tile codes and the test images: R131 to R138. -/

namespace Sys2Proof.Machine

variable {s : State}

/-! ## Lamp words (R131) -/

theorem litIn_iff {code slot : Nat} (shown : 1 ≤ code) : litIn code slot = true ↔
    code % 3 = 1 ∨ (code % 3 = 2 ∧ slot % 4 < 2) ∨ (code % 3 = 0 ∧ slot < 8) := by
  unfold litIn
  split
  · next steady => simp; omega
  · next fast => simp; omega
  · next steady fast =>
    have notSteady : (code - 1) % 3 ≠ 0 := steady
    have notFast : (code - 1) % 3 ≠ 1 := fast
    have : code % 3 = 0 := by omega
    simp [this]

theorem lampWord_lit {code slot : Nat} (shown : 1 ≤ code) (lit : litIn code slot = true) :
    lampWord code slot = colourWord ((code - 1) / 3) := by
  rw [lampWord, if_neg (by omega), if_pos lit]

theorem lampWord_blank {code slot : Nat} (dark : code = 0 ∨ litIn code slot = false) : lampWord code slot = .blank := by
  unfold lampWord
  rcases dark with rfl | dark
  · rfl
  · simp [dark]

/-! ## Test images (R137, R138) -/

theorem barsCode_bar {x : Pattern} {frame position k : Nat} (bar : k < x.bars) (first : k * x.width ≤ position)
    (last : position < k * x.width + x.width) :
    barsCode x frame position = [1, 4, 7, 10].getD ((k + frame / 4) % 4) 0 := by
  have quotient : position / x.width = k := Nat.div_eq_of_lt_le first (by rwa [Nat.succ_mul])
  have four := Nat.mod_lt (k + frame / 4) (show 0 < 4 by decide)
  rw [barsCode, quotient, if_pos bar]
  generalize (k + frame / 4) % 4 = m at four ⊢
  interval_cases m <;> rfl

theorem barsCode_beyond {x : Pattern} {frame position : Nat} (wide : 1 ≤ x.width) (beyond : x.bars * x.width ≤ position) :
    barsCode x frame position = 0 := by
  refine if_neg (Nat.not_lt.mpr ?_)
  exact (Nat.le_div_iff_mul_le wide).mpr beyond

theorem fixedCode_eq {x : Pattern} {position : Nat} (some' : 1 ≤ x.length) (fits : x.length ≤ 12) :
    fixedCode x position = (x.codes.toList.map (·.val)).getD (position % x.length) 0 := by
  have within : position % x.length < 12 := (Nat.mod_lt _ some').trans_le fits
  rw [fixedCode, List.getD_eq_getElem _ _ (by simpa using within)]
  simp [Nat.mod_eq_of_lt within]

/-! ## Tile codes (R134, R135) -/

theorem any_areaPoints (s : State) (a : AreaNo) (f g : Point → Bool) : ((areaPoints s a).filter f).any g = true ↔
    ∃ p, (s.point p).configured = true ∧ (s.point p).area = a ∧ f (s.point p) = true ∧ g (s.point p) = true := by
  simp only [areaPoints, points_toList, List.any_eq_true, List.mem_filter, List.mem_map, List.mem_finRange, true_and,
    Bool.and_eq_true, beq_iff_eq]
  constructor
  · rintro ⟨q, ⟨⟨⟨p, rfl⟩, configured, area⟩, hf⟩, hg⟩
    exact ⟨p, configured, area, hf, hg⟩
  · rintro ⟨p, configured, area, hf, hg⟩
    exact ⟨s.point p, ⟨⟨⟨p, rfl⟩, configured, area⟩, hf⟩, hg⟩

theorem holds_areaPoints (s : State) (a : AreaNo) (f : Point → Bool) : (!((areaPoints s a).filter f).isEmpty) = true ↔
    ∃ p, (s.point p).configured = true ∧ (s.point p).area = a ∧ f (s.point p) = true := by
  have some_iff (l : List Point) : (!l.isEmpty) = true ↔ l.any (fun _ => true) = true := by cases l <;> simp
  rw [some_iff, any_areaPoints]
  simp only [and_true]

theorem tileCode_area {n : Fin 32} {a : AreaNo} (tile : n.val = a.val) : tileCode s n = areaTile s a := by
  rw [tileCode, if_pos (by omega), areaOf_eq tile]

theorem tileCode_group {n : Fin 32} {g : GroupNo} (tile : n.val = 24 + g.val) : tileCode s n = groupTile s g := by
  have number : Fin.ofNat 8 (n.val - 24) = g := Fin.ext (by simp [tile])
  rw [tileCode, if_neg (by omega), number]

/-! ## Frames (R132, R133, R136) -/

theorem testHeld_iff (s : State) : testHeld s = true ↔ ∃ d : Console, (s.lines[d]).test.debounced = .pressed := by
  simp only [testHeld, List.any_eq_true, Vector.mem_toList_iff, beq_iff_eq]
  constructor
  · rintro ⟨x, mem, pressed⟩
    obtain ⟨i, hi, rfl⟩ := Vector.mem_iff_getElem.mp mem
    exact ⟨⟨i, hi⟩, pressed⟩
  · rintro ⟨d, pressed⟩
    exact ⟨_, Vector.getElem_mem d.isLt, pressed⟩

theorem boardImage_get (s : State) (test : Option Nat) (n : Fin 32) : (boardImage s test)[n] =
    lampWord (match test with
      | none => tileCode s n
      | some k => testCode s.pattern k (n.val % 8)) s.slots.slot := table32_get _ n

/-- R132: a frame's end stands past the slot boundary that its tick has brought. -/
theorem boardFrame_scanning (due : s.board.frameDue = true) (scanning : s.board.scanner = .scanning) :
    boardFrame s = startFrame (latch (slotBoundary s)) := by
  rw [boardFrame, if_pos due]
  dsimp only
  rw [scanning]

theorem boardFrame_blanking (due : s.board.frameDue = true) (blanking : s.board.scanner = .blanking) :
    boardFrame s = { slotBoundary s with
      board := { (slotBoundary s).board with
        scanner := .stopped, frameDue := false, lamps := (slotBoundary s).board.chain } } := by
  rw [boardFrame, if_pos due]
  dsimp only
  rw [blanking]
  rfl

/-- R133, R136: the frame that starts, where the lamp test moves on to a frame number, or to none, and a state. -/
theorem startFrame_eq {test : Option Nat} {x : LampTest} (next : s.lampTest.frameStart (testHeld s) = (test, x)) :
    startFrame s = { s with
      lampTest := x
      board := { s.board with scanner := .scanning, count := 0, frameDue := false, words := boardImage s test } } := by
  rw [startFrame, next]

end Sys2Proof.Machine

namespace Sys2Proof.Proofs

open Sys2Proof.Machine

/-- Settles O54. -/
theorem boardFrameEnds : Obligations.BoardFrameEnds := by
  intro s s0 held image starts
  obtain ⟨slots, boundary⟩ : ∃ slots, slotBoundary s = { s with slots := slots } := ⟨_, slotBoundary_eq s⟩
  have s0_eq : s0 = { s with slots := slots } := boundary
  clear_value s0
  subst s0_eq
  have scans {test : Option Nat} {x : LampTest} (due : s.board.frameDue = true) (scanning : s.board.scanner = .scanning)
      (next : s.lampTest.frameStart (testHeld s) = (test, x)) : starts test x := by
    refine ⟨boardImage (latch { s with slots := slots }) test, fun n => boardImage_get _ test n,
      congrArg event ((boardFrame_scanning due scanning).trans ?_)⟩
    rw [boundary]
    exact startFrame_eq next
  refine ⟨fun due => ⟨fun on sound n => ?_, fun scanning => ⟨fun idle => ?_, fun pending => ?_, fun k owed running =>
    ⟨fun none' up => ?_, fun more => ?_⟩⟩, fun blanking => ?_⟩, ?lamps, ?areas, ?groups, ?images⟩
  · unfold Board.chainSound at sound
    have sent := sound on n n
    simp only [due, if_true] at sent
    exact sent (by omega) (by omega)
  · exact scans due scanning (by rw [idle, LampTest.frameStart])
  · exact scans due scanning (by rw [pending, LampTest.frameStart])
  · refine scans due scanning (test := none) (x := .idle) ?_
    have notHeld : testHeld s = false := Bool.eq_false_iff.mpr (mt (testHeld_iff s).mp up)
    rw [running, notHeld, none']
    rfl
  · refine scans due scanning (test := some k) (x := .running ((k + 1) % 16) (owed - 1)) ?_
    have goes : (decide (owed = 0) && !testHeld s) = false := by
      rcases more with owes | up
      · simp [show owed ≠ 0 by omega]
      · simp [(testHeld_iff s).mpr up]
    rw [running, LampTest.frameStart]
    exact if_neg (by rw [goes]; exact Bool.false_ne_true)
  · refine congrArg event ((boardFrame_blanking due blanking).trans ?_)
    rw [boundary]
  case lamps =>
    intro code slot range lit
    have lit_iff (shown : 1 ≤ code) : litIn code slot = true ↔ lit := litIn_iff shown
    refine ⟨fun dark => lampWord_blank ?_, fun shown on => ?_⟩
    · by_cases none' : code = 0
      · exact .inl none'
      · exact .inr (Bool.eq_false_iff.mpr (mt (lit_iff (by omega)).mp (dark.resolve_left none')))
    · rw [lampWord_lit shown ((lit_iff shown).mpr on)]
      refine ⟨fun hi => ?_, fun lo hi => ?_, fun lo hi => ?_, fun lo => ?_⟩
      · rw [show (code - 1) / 3 = 0 by omega]
        rfl
      · rw [show (code - 1) / 3 = 1 by omega]
        rfl
      · rw [show (code - 1) / 3 = 2 by omega]
        rfl
      · rw [show (code - 1) / 3 = 3 by omega]
        rfl
  case areas =>
    intro n a tile holds urgent escalated
    have urgent_iff (st : Annunciation) :
        ((areaPoints s a).filter (·.state == st)).any (·.urgent) = true ↔ urgent st := by
      rw [any_areaPoints]
      simp only [beq_iff_eq, Point.urgent, Bool.or_eq_true]
      rfl
    have holds_iff (st : Annunciation) : (!((areaPoints s a).filter (·.state == st)).isEmpty) = true ↔ holds st := by
      rw [holds_areaPoints]
      simp only [beq_iff_eq]
      rfl
    have escalated_iff : (s.area a).isEscalated = true ↔ escalated := Area.isEscalated_iff _
    rw [tileCode_area tile]
    have colour (st : Annunciation) (flash : Nat) :
        (urgent st → priorityCode (((areaPoints s a).filter (·.state == st)).any (·.urgent)) flash = 1 + flash) ∧
        (¬ urgent st → priorityCode (((areaPoints s a).filter (·.state == st)).any (·.urgent)) flash = 4 + flash) :=
      ⟨fun h => by rw [(urgent_iff st).mpr h]; rfl, fun h => by rw [Bool.eq_false_iff.mpr (mt (urgent_iff st).mp h)]; rfl⟩
    have held_of {st : Annunciation} (h : urgent st) : holds st := by
      obtain ⟨p, configured, area, state, -⟩ := h
      exact ⟨p, configured, area, state⟩
    have calm (none' : ¬ holds .raised) : areaTile s a =
        if !((areaPoints s a).filter (·.state == .returned)).isEmpty then
          priorityCode (((areaPoints s a).filter (·.state == .returned)).any (·.urgent)) 2
        else if !((areaPoints s a).filter (·.state == .standing)).isEmpty then
          priorityCode (((areaPoints s a).filter (·.state == .standing)).any (·.urgent)) 0
        else if (s.area a).isEscalated then 8
        else if (s.area a).notGood != 0 then 7
        else if (s.area a).shelved != 0 then 10
        else 0 := by
      unfold areaTile
      dsimp only
      rw [if_neg (mt (urgent_iff _).mp (mt held_of none')), if_neg (mt (holds_iff _).mp none')]
    refine ⟨fun red => if_pos ((urgent_iff _).mpr red), fun amber some' => ?_, fun none1 => ⟨fun red => ?_, fun amber some' => ?_,
      fun none2 => ⟨fun red => ?_, fun amber some' => ?_, fun none3 => ?_⟩⟩⟩
    · exact (if_neg (mt (urgent_iff _).mp amber)).trans (if_pos ((holds_iff _).mpr some'))
    · rw [calm none1, if_pos ((holds_iff _).mpr (held_of red)), (colour _ _).1 red]
    · rw [calm none1, if_pos ((holds_iff _).mpr some'), (colour _ _).2 amber]
    · rw [calm none1, if_neg (mt (holds_iff _).mp none2), if_pos ((holds_iff _).mpr (held_of red)), (colour _ _).1 red]
    · rw [calm none1, if_neg (mt (holds_iff _).mp none2), if_pos ((holds_iff _).mpr some'), (colour _ _).2 amber]
    · rw [calm none1, if_neg (mt (holds_iff _).mp none2), if_neg (mt (holds_iff _).mp none3)]
      refine ⟨fun up => if_pos (escalated_iff.mpr up), fun down bad => ?_, fun down good away => ?_, fun down good back => ?_⟩
      · rw [if_neg (mt escalated_iff.mp down), if_pos (bne_iff_ne.mpr bad)]
      · rw [if_neg (mt escalated_iff.mp down), good, if_neg (by decide), if_pos (bne_iff_ne.mpr away)]
      · rw [if_neg (mt escalated_iff.mp down), good, if_neg (by decide), back, if_neg (by decide)]
  case groups =>
    intro n g tile
    rw [tileCode_group tile]
    refine ⟨fun armed => by rw [groupTile, armed], fun p tripped => ?_⟩
    rw [groupTile, tripped]
    exact if_congr (by simp [Point.unacknowledged]) rfl rfl
  case images =>
    intro x frame position eight
    refine ⟨fun bars wide => ⟨fun k bar first last => ?_, fun beyond => ?_⟩, fun fixed some' fits => ?_⟩
    · rw [testCode, bars]
      exact barsCode_bar bar first last
    · rw [testCode, bars]
      exact barsCode_beyond wide beyond
    · rw [testCode, fixed]
      exact fixedCode_eq some' fits

end Sys2Proof.Proofs
end

section
/-! Service control: R26, R121, R132, R165, R177, R178, R180. -/

namespace Sys2Proof.Machine

variable {s : State}

/-! ## Counts over the tables -/

theorem areas_toList (s : State) : s.areas.toList = (List.finRange 24).map s.area := by
  apply List.ext_getElem <;> simp [State.area]

theorem clampedAreas_eq (s : State) : clampedAreas s =
    ((List.finRange 24).filter fun a => (s.area a).tOffApplied != (s.area a).tOffWritten).length := by
  rw [clampedAreas, areas_toList, List.filter_map, List.length_map]
  rfl

/-! ## The RESTART record (R165) -/

theorem restartRecord_taken (e : RestartEvent) (k : Nat) (quiet : s.journal.lossEvents = [])
    (room : s.journal.fifo.length < 256) :
    restartRecord s e k = { s with journal := s.journal.accept (lossRecord s .restart .accountable e.code k) } := by
  rw [restartRecord, offerAlone, if_pos (by exact room)]
  exact settle510_none ((accept_lossEvents ..).trans quiet)

theorem restartRecord_counted (e : RestartEvent) (k : Nat) (quiet : s.journal.lossEvents = [])
    (full : 256 ≤ s.journal.fifo.length) (pending : s.journal.lossPending = true) :
    restartRecord s e k = { s with journal := s.journal.drop .accountable } := by
  rw [restartRecord, offerAlone, if_neg (by exact Nat.not_lt.mpr full)]
  dsimp only
  rw [if_pos pending]
  exact settle510_none quiet

theorem restartRecord_lost (e : RestartEvent) (k : Nat) (full : 256 ≤ s.journal.fifo.length)
    (clear : ¬ s.journal.lossPending = true) :
    restartRecord s e k = settle510 (lossChange .active { s with journal := s.journal.drop .accountable }) := by
  rw [restartRecord, offerAlone, if_neg (by exact Nat.not_lt.mpr full)]
  dsimp only
  rw [if_neg clear]
  rfl

/-! ## The system points (R26) -/

theorem systemPoint_configuring (mode : s.mode = .configuring) (p : PointNo) (i : Input) : systemPoint s p i = s :=
  if_neg (by simp [State.inService, mode])

theorem systemPoint_service (mode : s.mode = .inService) (p : PointNo) (i : Input) :
    systemPoint s p i = handled p (fun off s => pointInput off s p i .good) s :=
  if_pos (beq_iff_eq.mpr mode)

/-- R26: the input that a source's condition gives its system point. -/
def conditionInput (cond : Bool) : Input := if cond then .active else .normal

theorem conditionInput_active (cond : Bool) : conditionInput cond = .active ↔ cond = true := by
  cases cond <;> decide

theorem link_code_lost (k : Link) : (k.code == 1) = true ↔ ∃ u, k = .lost u := by
  cases k <;> simp [Link.code]

theorem restartChecks_pass (ready : s.supervisorReady) : firstFailure (restartChecks s 0) = none := stopChecks_pass ready

end Sys2Proof.Machine

namespace Sys2Proof.Proofs

open Sys2Proof.Machine

/-- Settles O50. -/
theorem serviceStatesChange : Obligations.ServiceStatesChange := by
  intro r s s1 op afresh lines
  have op_eq : s1.operatorNumber 0 = op := frameArrives_operatorNumber 0 0 s
  have lines_eq : s1.lines = s.lines := (frameArrives_base 0 s).lines
  refine ⟨fun configuring => ?commit, fun ready => ⟨?restart, ?reconfigure⟩, ?power, ?asserted, ?record,
    fun p i => ?system, ?bring, rfl, fun idle => ?frame⟩
  case commit =>
    have mode1 : s1.mode = .configuring := (frameArrives_mode 0 s).trans configuring
    refine ⟨mapTable Area.applyToff s1.areas, mapTable (DeskLines.committed s1.time.runClock) s1.lines,
      fun a => mapTable_getElem .., fun d => mapTable_getElem .., ?_⟩
    refine exec_taken rfl rfl (cfgChecks_pass mode1) ?_
    change takeCommit s1 0 = _
    rw [takeCommit, clampedAreas_eq, op_eq]
    rfl
  case restart =>
    refine exec_taken rfl rfl (restartChecks_pass (frameArrives_supervisorReady ready 0)) ?_
    change taken (takeRestart s1 0) [] = _
    rw [takeRestart, op_eq]
    rfl
  case reconfigure =>
    refine ⟨mapTable (DeskLines.afresh s1.time.runClock) s1.lines, fun d => mapTable_getElem .., ?_⟩
    refine exec_taken rfl rfl (restartChecks_pass (frameArrives_supervisorReady ready 0)) ?_
    change taken (takeReconfigure s1 0) [] = _
    rw [takeReconfigure, op_eq]
    rfl
  case power =>
    refine ⟨mapTable (DeskLines.afresh 0#32) s.lines, fun d => ?_, rfl⟩
    rw [lines_eq]
    exact mapTable_getElem ..
  case asserted =>
    refine ⟨fun d => ⟨?_, ?_⟩, rfl, rfl⟩
    · exact congrArg Horn.out (mapTable_getElem (fun h : Horn => { h with out := false }) s.horns d)
    · exact congrArg Port.irq (mapTable_getElem (fun p : Port => { p with irq := false }) s.ports d)
  case record =>
    intro e k j x quiet
    have record : lossRecord s .restart .accountable e.code k = x := by
      cases e <;> rfl
    have pending : j.lossPending = true ↔ 0 < j.dropRoutine ∨ 0 < j.dropAccountable := j.lossPending_iff
    refine ⟨fun room => ?_, fun full lost => restartRecord_counted e k quiet full (pending.mpr lost),
      fun full routine accountable => ?_⟩
    · rw [restartRecord_taken e k quiet room, record]
    · rw [restartRecord_lost e k full (by rw [pending]; omega)]
      change settle510 (lossChange .active { s with journal := { j with dropAccountable := min 65535 (j.dropAccountable + 1) } }) = _
      rw [accountable, show min 65535 (0 + 1) = 1 from rfl]
  case system =>
    refine ⟨fun mode => systemPoint_configuring mode p i, fun mode other => ?_, fun mode => ?_⟩
    · rw [systemPoint_service mode, handled, if_neg other]
    · rw [systemPoint_service mode, handled, if_pos rfl]
  case bring =>
    let s508 := systemPoint s 508 (conditionInput s.anyEscalated)
    let told := systemPoint s508 509 (conditionInput s508.anyAbsent)
    let s510 := systemPoint told 510 (conditionInput told.journal.lossPending)
    have kept508 : Kept s s508 := systemPoint_keeps ..
    have kept510 : Kept s s510 := ((systemPoint_keeps ..).after (systemPoint_keeps ..)).after kept508
    refine ⟨conditionInput s.anyEscalated, conditionInput s508.anyAbsent, conditionInput told.journal.lossPending,
      conditionInput (s510.receiver.link.code == 1), ?_, ?_, ?_, ?_, rfl⟩
    · rw [conditionInput_active, anyEscalated_iff]
    · rw [conditionInput_active, anyAbsent_iff]
      simp only [kept508.presentAt_eq]
    · rw [conditionInput_active]
      exact told.journal.lossPending_iff
    · rw [conditionInput_active, link_code_lost, kept510.receiver]
  case frame =>
    refine ⟨boardImage s none, fun n => boardImage_get s none n, ?_⟩
    refine (startFrame_eq (test := none) (x := .idle) (by rw [idle, LampTest.frameStart])).trans ?_
    rw [← idle]

end Sys2Proof.Proofs
end

section
/-! Point-input events: R27, R29, R32, R33, R39, R53. -/

namespace Sys2Proof.Machine

variable {s : State} {p : PointNo}

/-! ## What a point's change makes of its area's counts (R39) -/

theorem bump_apart {was now : Bool} (n : Nat) : bump was now n =
    if was = false ∧ now = true then n + 1 else if was = true ∧ now = false then n - 1 else n := by
  cases was <;> cases now <;> rfl

/-- R39: an area whose not-GOOD count follows a change of a point's quality. -/
def notGoodJudged (q : Point) (ql : Quality) (e : Area) : Area := { e with notGood :=
  if q.quality ≠ .good ∧ ql = .good then e.notGood - 1
  else if q.quality = .good ∧ ql ≠ .good then e.notGood + 1 else e.notGood }

/-- R39: a change of quality, and of nothing else that is counted. -/
theorem recount_quality {q : Point} (configured : q.configured = true) (ql : Quality) (i : Input) (e : Area) :
    recount q.area q { q with quality := ql, input := i } e = notGoodJudged q ql e := by
  have unack (a : AreaNo) (pr : Priority) :
      countsUnack { q with quality := ql, input := i } a pr = countsUnack q a pr := rfl
  have standing (a : AreaNo) : countsStanding { q with quality := ql, input := i } a = countsStanding q a := rfl
  have shelved (a : AreaNo) : countsShelved { q with quality := ql, input := i } a = countsShelved q a := rfl
  have was : countsNotGood q q.area = (q.quality != .good) := by simp [countsNotGood, configured]
  have now : countsNotGood { q with quality := ql, input := i } q.area = (ql != .good) := by
    simp [countsNotGood, configured]
  simp only [recount, notGoodJudged, unack, standing, shelved, bump_same, was, now]
  congr 1
  cases q.quality <;> cases ql <;> rfl

/-- R39: a point that goes from RAISED to RETURNED stays unacknowledged. -/
theorem recount_returned {q : Point} (raised : q.state = .raised) (a : AreaNo) (e : Area) :
    recount a q { q with state := .returned } e = e := by
  have unack (a : AreaNo) (pr : Priority) : countsUnack { q with state := .returned } a pr = countsUnack q a pr := by
    simp [countsUnack, Point.unacknowledged, raised]
  have standing (a : AreaNo) : countsStanding { q with state := .returned } a = countsStanding q a := by
    rw [countsStanding, countsStanding, raised]
    rfl
  have shelved (a : AreaNo) : countsShelved { q with state := .returned } a = countsShelved q a := by
    rw [countsShelved, countsShelved, raised]
    rfl
  have notGood (a : AreaNo) : countsNotGood { q with state := .returned } a = countsNotGood q a := rfl
  simp only [recount, unack, standing, shelved, notGood, bump_same]

/-- R39: a point that goes from STANDING to NORMAL leaves the standing count. -/
theorem recount_ended {q : Point} (configured : q.configured = true) (standing : q.state = .standing) (e : Area) :
    recount q.area q q.endEpisode e = { e with standing := e.standing - 1 } := by
  have unack (a : AreaNo) (pr : Priority) : countsUnack q.endEpisode a pr = countsUnack q a pr := by
    rw [countsUnack, countsUnack, Point.unacknowledged, Point.unacknowledged, standing]
    rfl
  have shelved (a : AreaNo) : countsShelved q.endEpisode a = countsShelved q a := by
    rw [countsShelved, countsShelved, standing]
    rfl
  have notGood (a : AreaNo) : countsNotGood q.endEpisode a = countsNotGood q a := rfl
  have was : countsStanding q q.area = true := by simp [countsStanding, configured, standing]
  have now : countsStanding q.endEpisode q.area = false := by
    rw [countsStanding, Point.endEpisode, configured]
    simp
  simp only [recount, unack, shelved, notGood, was, now, bump_same]
  rfl

/-! ## The unit told of a step to NORMAL (R53) -/

/-- R53: told of a point's step, the first-out unit rearms a group. -/
def rearmsAt (s : State) (p : PointNo) (g : GroupNo) : Prop :=
  isMember g (s.point p) = true ∧ s.groups[g] ≠ .armed ∧
    ∀ x, isMember g (s.point x) = true → (s.point x).state = .normal

theorem isMember_unique {g g' : GroupNo} {q : Point} (h : isMember g q = true) (h' : isMember g' q = true) : g = g' := by
  unfold isMember at h h'
  exact Option.some_inj.mp ((beq_iff_eq.mp h).symm.trans (beq_iff_eq.mp h'))

theorem toldNormal_rearms {g : GroupNo} (h : rearmsAt s p g) : toldNormal s p = rearm g s := by
  obtain ⟨member, tripped, normal⟩ := h
  rw [toldNormal_tripped (beq_iff_eq.mp member) tripped, if_pos normal]

theorem toldNormal_rests (h : ∀ g, ¬ rearmsAt s p g) : toldNormal s p = s := by
  cases grouped : memberGroup (s.point p) with
  | none => exact toldNormal_ungrouped grouped
  | some g =>
    by_cases armed : s.groups[g] = .armed
    · exact toldNormal_armed grouped armed
    · rw [toldNormal_tripped grouped armed, if_neg fun normal => h g ⟨beq_iff_eq.mpr grouped, armed, normal⟩]

/-- R53: what the unit leaves of each group and of its members' marks. -/
theorem toldNormal_group (s : State) (p : PointNo) (g : GroupNo) :
    (rearmsAt s p g → (toldNormal s p).groups[g] = .armed ∧
      ∀ x, isMember g (s.point x) = true → ((toldNormal s p).point x).firstMark = none) ∧
    (¬ rearmsAt s p g → (toldNormal s p).groups[g] = s.groups[g] ∧
      ∀ x, isMember g (s.point x) = true → ((toldNormal s p).point x).firstMark = (s.point x).firstMark) := by
  refine ⟨fun h => ?_, fun h => ?_⟩
  · rw [toldNormal_rearms h]
    refine ⟨Vector.getElem_set_self .., fun x member => ?_⟩
    rw [State.point, rearm_points_get, if_pos member]
  · by_cases other : ∃ g', rearmsAt s p g'
    · obtain ⟨g', rearms⟩ := other
      have differ : g' ≠ g := fun same => h (same ▸ rearms)
      rw [toldNormal_rearms rearms]
      refine ⟨Vector.getElem_set_ne g'.isLt g.isLt (Fin.val_ne_of_ne differ), fun x member => ?_⟩
      rw [State.point, rearm_points_get, if_neg fun m => differ (isMember_unique m member)]
    · rw [toldNormal_rests fun g' h' => other ⟨g', h'⟩]
      exact ⟨rfl, fun _ _ => rfl⟩

theorem point_toldNormal (s : State) (p x : PointNo) :
    { (toldNormal s p).point x with firstMark := (s.point x).firstMark } = s.point x := by
  by_cases some' : ∃ g, rearmsAt s p g
  · obtain ⟨g, rearms⟩ := some'
    rw [toldNormal_rearms rearms, State.point, rearm_points_get]
    split <;> rfl
  · rw [toldNormal_rests fun g h => some' ⟨g, h⟩]

theorem mark_toldNormal_ungrouped {x : PointNo} (ungrouped : ∀ g, ¬ isMember g (s.point x) = true) :
    ((toldNormal s p).point x).firstMark = (s.point x).firstMark := by
  by_cases some' : ∃ g, rearmsAt s p g
  · obtain ⟨g, rearms⟩ := some'
    rw [toldNormal_rearms rearms, State.point, rearm_points_get, if_neg (ungrouped g)]
  · rw [toldNormal_rests fun g h => some' ⟨g, h⟩]

theorem toldNormal_eq (s : State) (p : PointNo) :
    toldNormal s p = { s with points := (toldNormal s p).points, groups := (toldNormal s p).groups } := by
  by_cases some' : ∃ g, rearmsAt s p g
  · obtain ⟨g, rearms⟩ := some'
    rw [toldNormal_rearms rearms]
    rfl
  · rw [toldNormal_rests fun g h => some' ⟨g, h⟩]

/-- R53: a step of a point to NORMAL leaves every member of a TRIPPED group NORMAL. -/
def rearmsBy (s : State) (p : PointNo) (g : GroupNo) : Prop :=
  isMember g (s.point p) = true ∧ s.groups[g] ≠ .armed ∧
    ∀ x, x ≠ p → isMember g (s.point x) = true → (s.point x).state = .normal

/-- The point tables before and after a point's step to NORMAL: every point keeps its group and its mark, every other
point its state. -/
structure StepsToNormal (s t : State) (p : PointNo) : Prop where
  member : ∀ x g, isMember g (t.point x) = isMember g (s.point x)
  mark : ∀ x, (t.point x).firstMark = (s.point x).firstMark
  groups : t.groups = s.groups
  normal : (t.point p).state = .normal
  others : ∀ x, x ≠ p → (t.point x).state = (s.point x).state

theorem StepsToNormal.rearms_iff {t : State} (h : StepsToNormal s t p) (g : GroupNo) :
    rearmsAt t p g ↔ rearmsBy s p g := by
  unfold rearmsAt rearmsBy
  rw [h.member, h.groups]
  refine and_congr_right' (and_congr_right' ⟨fun all x other member => ?_, fun all x member => ?_⟩)
  · rw [← h.others x other]
    exact all x (by rw [h.member]; exact member)
  · by_cases same : x = p
    · rw [same]
      exact h.normal
    · rw [h.others x same]
      exact all x same (by rw [← h.member]; exact member)

/-- R53: what a point's step to NORMAL makes of groups and marks, in terms of the state before it. -/
theorem StepsToNormal.told {t : State} (h : StepsToNormal s t p) :
    (∀ g : GroupNo, (rearmsBy s p g → (toldNormal t p).groups[g] = .armed ∧
        ∀ x, isMember g (s.point x) = true → ((toldNormal t p).point x).firstMark = none) ∧
      (¬ rearmsBy s p g → (toldNormal t p).groups[g] = s.groups[g] ∧
        ∀ x, isMember g (s.point x) = true → ((toldNormal t p).point x).firstMark = (s.point x).firstMark)) ∧
    (∀ x, (∀ g, ¬ isMember g (s.point x) = true) → ((toldNormal t p).point x).firstMark = (s.point x).firstMark) := by
  refine ⟨fun g => ?_, fun x ungrouped => ?_⟩
  · have unit := toldNormal_group t p g
    simp only [h.member, h.mark, h.groups, h.rearms_iff] at unit
    exact unit
  · rw [mark_toldNormal_ungrouped (by simpa only [h.member] using ungrouped), h.mark]

/-! ## The event (R27, R29) -/

theorem pointInput_unconfigured (off : Offer) (configured : (s.point p).configured = false) (i : Input) (ql : Quality) :
    pointInput off s p i ql = s :=
  if_neg (by rw [configured]; exact Bool.false_ne_true)

theorem pointInput_same (off : Offer) (configured : (s.point p).configured = true) (ql : Quality) :
    pointInput off s p (s.point p).input ql = s.setPoint p { s.point p with quality := ql } := by
  unfold pointInput
  dsimp only
  rw [if_pos configured, if_pos rfl]

/-- R27: the level and the quality of a report, written together. -/
theorem pointInput_changed (off : Offer) (configured : (s.point p).configured = true) {i : Input}
    (changed : i ≠ (s.point p).input) (ql : Quality) :
    pointInput off s p i ql = stepInput off (s.setPoint p { s.point p with quality := ql, input := i }) p := by
  have both : (s.setPoint p { s.point p with quality := ql }).putPoint p
      { (s.setPoint p { s.point p with quality := ql }).point p with input := i } =
        s.setPoint p { s.point p with quality := ql, input := i } := by
    rw [State.point_setPoint_same]
    unfold State.setPoint State.putPoint
    dsimp only
    simp only [if_true, State.recountArea, State.setArea, Vector.set_set]
    rfl
  unfold pointInput
  dsimp only
  rw [if_pos configured, if_neg changed, both]

theorem stepInput_raises (off : Offer) (active : (s.point p).input = .active)
    (state : (s.point p).state = .normal ∨ (s.point p).state = .returned) : stepInput off s p = raisePoint off s p := by
  unfold stepInput
  dsimp only
  rw [active]
  rcases state with state | state <;> rw [state]

/-- R151: a record names an area's owner and operator, which no step of the sequence changes. -/
theorem areaRecord_kept {t : State} (k : Kept s t) (kind : JournalKind) (cls : JournalClass) (subject : Nat) (a : AreaNo)
    (x : BitVec 6) (v : Word32) : areaRecord t kind cls subject a x v = areaRecord s kind cls subject a x v := by
  have operator (c : Console) : t.operatorNumber c = s.operatorNumber c := by
    unfold State.operatorNumber State.operatorAt State.desk
    rw [k.roster, k.desks]
  rw [areaRecord, areaRecord, k.owner, operator]
  exact journalRecord_congr k.time ..

theorem State.setPoint_sameArea {q : Point} (same : q.area = (s.point p).area) : s.setPoint p q =
    (s.putPoint p q).setArea (s.point p).area (recount (s.point p).area (s.point p) q (s.area (s.point p).area)) := by
  unfold State.setPoint
  dsimp only
  rw [if_pos same]
  rfl

theorem State.setPoint_uncounted {q : Point} (same : q.area = (s.point p).area)
    (still : recount (s.point p).area (s.point p) q (s.area (s.point p).area) = s.area (s.point p).area) :
    s.setPoint p q = s.putPoint p q := by
  rw [State.setPoint_sameArea same, still]
  simp [State.setArea, State.putPoint, State.area]

theorem stepInput_returnStep (off : Offer) (normal : (s.point p).input = .normal) (raised : (s.point p).state = .raised) :
    stepInput off s p =
      let s1 := unsilence p (s.setPoint p { s.point p with state := .returned })
      off s1 (returnRecord s1 p .raised) := by
  unfold stepInput
  dsimp only
  rw [normal, raised]

theorem stepInput_endStep (off : Offer) (normal : (s.point p).input = .normal) (standing : (s.point p).state = .standing) :
    stepInput off s p =
      let s1 := s.setPoint p (s.point p).endEpisode
      toldNormal (off s1 (returnRecord s1 p .standing)) p := by
  unfold stepInput
  dsimp only
  rw [normal, standing]

/-- R33: the return of a RAISED point, in a journal with room. -/
theorem stepInput_returns (normal : (s.point p).input = .normal) (raised : (s.point p).state = .raised)
    (calm : s.calm 1) : stepInput offer s p =
      { unsilence p (s.putPoint p { s.point p with state := .returned }) with
        journal := s.journal.accept (areaRecord s .pointReturn .routine p (s.point p).area 0#6 (value12 1)) } := by
  have put : s.setPoint p { s.point p with state := .returned } = s.putPoint p { s.point p with state := .returned } :=
    State.setPoint_uncounted rfl (recount_returned raised ..)
  have kept : Kept s (unsilence p (s.putPoint p { s.point p with state := .returned })) :=
    ((unsilence_seq ..).after (putPoint_seq s p _ (by rfl))).toKept
  have calm' : (unsilence p (s.putPoint p { s.point p with state := .returned })).calm (0 + 1) := calm
  have area : ((unsilence p (s.putPoint p { s.point p with state := .returned })).point p).area = (s.point p).area := by
    refine (congrArg Point.area (State.point_putPoint ..)).trans ?_
    rw [if_pos rfl]
  rw [stepInput_returnStep offer normal raised]
  dsimp only
  rw [put, offer_calm calm', returnRecord, area, areaRecord_kept kept]
  rfl

/-- R32: the end of a STANDING point's episode, in a journal with room, before the first-out unit is told. -/
theorem stepInput_ends (normal : (s.point p).input = .normal) (standing : (s.point p).state = .standing)
    (calm : s.calm 1) : stepInput offer s p =
      toldNormal { s.setPoint p (s.point p).endEpisode with
        journal := s.journal.accept (areaRecord s .pointReturn .routine p (s.point p).area 0#6 (value12 2)) } p := by
  have kept : Kept s (s.setPoint p (s.point p).endEpisode) := (setPoint_seq s p _ (by rfl)).toKept
  have journal : (s.setPoint p (s.point p).endEpisode).journal = s.journal := by rw [State.setPoint_eq]
  have calm' : (s.setPoint p (s.point p).endEpisode).calm (0 + 1) := by
    rw [State.calm, journal]
    exact calm
  have area : ((s.setPoint p (s.point p).endEpisode).point p).area = (s.point p).area := by
    rw [State.point_setPoint_same]
    rfl
  rw [stepInput_endStep offer normal standing]
  dsimp only
  rw [offer_calm calm', returnRecord, area, areaRecord_kept kept, journal]
  rfl

theorem stepInput_rests (off : Offer)
    (state : (s.point p).state = .shelved ∨ ((s.point p).input = .active ∧ (s.point p).state = .standing)) :
    stepInput off s p = s := by
  unfold stepInput
  dsimp only
  rcases state with state | ⟨active, state⟩
  · rw [state]
    cases (s.point p).input <;> rfl
  · rw [active, state]

/-- R27, R39: a report's level and quality written, with the area's not-GOOD count. -/
theorem reported_eq (configured : (s.point p).configured = true) (ql : Quality) (i : Input) :
    s.setPoint p { s.point p with quality := ql, input := i } =
      (s.putPoint p { s.point p with quality := ql, input := i }).setArea (s.point p).area
        (notGoodJudged (s.point p) ql (s.area (s.point p).area)) := by
  rw [← recount_quality configured ql i]
  exact State.setPoint_sameArea rfl

/-- R33: a return from RAISED. -/
theorem pointInput_returns (configured : (s.point p).configured = true) (was : (s.point p).input = .active)
    (raised : (s.point p).state = .raised) (calm : s.calm 1) (ql : Quality) :
    pointInput offer s p .normal ql =
      { unsilence p ((s.putPoint p { s.point p with quality := ql, input := .normal, state := .returned }).setArea
          (s.point p).area (notGoodJudged (s.point p) ql (s.area (s.point p).area))) with
        journal := s.journal.accept (areaRecord s .pointReturn .routine p (s.point p).area 0#6 (value12 1)) } := by
  rw [pointInput_changed offer configured (by rw [was]; decide)]
  have point : (s.setPoint p { s.point p with quality := ql, input := .normal }).point p =
    { s.point p with quality := ql, input := .normal } := State.point_setPoint_same ..
  have kept : Kept s (s.setPoint p { s.point p with quality := ql, input := .normal }) := (setPoint_seq s p _ (by rfl)).toKept
  have journal : (s.setPoint p { s.point p with quality := ql, input := .normal }).journal = s.journal := by
    rw [State.setPoint_eq]
  rw [stepInput_returns (by rw [point]) (by rw [point]; exact raised) (by rw [State.calm, journal]; exact calm),
    areaRecord_kept kept, point, journal, reported_eq configured]
  simp only [State.putPoint, State.setArea, Vector.set_set]

/-- R32: a return from STANDING, before the first-out unit is told. -/
def returnedNormal (s : State) (p : PointNo) (ql : Quality) : State :=
  { (s.putPoint p { s.point p with
      quality := ql, input := .normal, state := .normal, serial := none, quiet := false }).setArea (s.point p).area
      { notGoodJudged (s.point p) ql (s.area (s.point p).area) with
        standing := (s.area (s.point p).area).standing - 1 } with
    journal := s.journal.accept (areaRecord s .pointReturn .routine p (s.point p).area 0#6 (value12 2)) }

theorem point_returnedNormal (s : State) (p x : PointNo) (ql : Quality) : (returnedNormal s p ql).point x = if p = x then
    { s.point p with quality := ql, input := .normal, state := .normal, serial := none, quiet := false }
    else s.point x :=
  State.point_putPoint ..

theorem returnedNormal_steps (s : State) (p : PointNo) (ql : Quality) : StepsToNormal s (returnedNormal s p ql) p where
  member x g := by
    rw [point_returnedNormal]
    split
    · next same => subst same; rfl
    · rfl
  mark x := by
    rw [point_returnedNormal]
    split
    · next same => subst same; rfl
    · rfl
  groups := rfl
  normal := by rw [point_returnedNormal, if_pos rfl]
  others x other := by rw [point_returnedNormal, if_neg (Ne.symm other)]

theorem pointInput_ends (configured : (s.point p).configured = true) (was : (s.point p).input = .active)
    (standing : (s.point p).state = .standing) (calm : s.calm 1) (ql : Quality) :
    pointInput offer s p .normal ql = toldNormal (returnedNormal s p ql) p := by
  rw [pointInput_changed offer configured (by rw [was]; decide)]
  have point : (s.setPoint p { s.point p with quality := ql, input := .normal }).point p =
    { s.point p with quality := ql, input := .normal } := State.point_setPoint_same ..
  have kept : Kept s (s.setPoint p { s.point p with quality := ql, input := .normal }) := (setPoint_seq s p _ (by rfl)).toKept
  have journal : (s.setPoint p { s.point p with quality := ql, input := .normal }).journal = s.journal := by
    rw [State.setPoint_eq]
  have area : (s.setPoint p { s.point p with quality := ql, input := .normal }).area (s.point p).area =
      notGoodJudged (s.point p) ql (s.area (s.point p).area) := by
    rw [reported_eq configured, State.area_setArea, if_pos rfl]
  rw [stepInput_ends (by rw [point]) (by rw [point]; exact standing) (by rw [State.calm, journal]; exact calm),
    areaRecord_kept kept, point, journal, State.setPoint_sameArea (by rw [point]; rfl), point,
    recount_ended (q := { s.point p with quality := ql, input := .normal }) configured standing, area, reported_eq configured]
  simp only [State.putPoint, State.setArea, Vector.set_set]
  rfl

theorem horn_unsilence (s : State) (p : PointNo) (d : Console) : (unsilence p s).horn d =
    { s.horn d with silenced := (s.horn d).silenced.filter (· ≠ p) } := by
  refine (mapTable_getElem ..).trans ?_
  simp only [ne_eq, decide_not]
  rfl

end Sys2Proof.Machine

namespace Sys2Proof.Proofs

open Sys2Proof.Machine

/-- Settles O44. -/
theorem pointInputSteps : Obligations.PointInputSteps := by
  intro s p i ql q t entry member rearms area judged calm
  refine ⟨fun off => pointInput_unconfigured offer off i ql, fun configured => ?_⟩
  have took (i : Input) : (s.setPoint p { q with quality := ql, input := i }).point p = { q with quality := ql, input := i } :=
    State.point_setPoint_same ..
  have changed {i : Input} (differ : i ≠ q.input) : pointInput offer s p i ql =
      stepInput offer (s.setPoint p { q with quality := ql, input := i }) p := pointInput_changed offer configured differ ql
  refine ⟨fun same => ?_, fun active was state => ?_, fun normal was state => ?returns, fun normal was state => ?ends,
    fun differ state => ?_⟩
  · simp only [t, same]
    exact pointInput_same offer configured ql
  · simp only [t, active]
    rw [changed (by rw [was]; decide), stepInput_raises offer (by rw [took]) (by rw [took]; exact state)]
  case returns =>
    subst normal
    have whole : t = _ := pointInput_returns configured was state calm ql
    refine ⟨?_, ?_, fun d => ?_, fun x other => ?_, ?_, fun a other => ?_, ?_⟩
    · rw [whole]
      exact (State.point_putPoint ..).trans (if_pos rfl)
    · rw [whole]
      exact accept_fifo ..
    · rw [whole]
      exact horn_unsilence ..
    · rw [whole]
      exact (State.point_putPoint ..).trans (if_neg (Ne.symm other))
    · rw [whole]
      exact (State.area_setArea ..).trans (if_pos rfl)
    · rw [whole]
      exact (State.area_setArea ..).trans (if_neg (Ne.symm other))
    · rw [whole]
      rfl
  case ends =>
    subst normal
    have whole : t = toldNormal (returnedNormal s p ql) p := pointInput_ends configured was state calm ql
    obtain ⟨groups, marks⟩ := (returnedNormal_steps s p ql).told
    have rearms_iff (g : GroupNo) : rearmsBy s p g ↔ rearms g := by
      simp only [rearmsBy, isMember_iff]
      rfl
    have points (x : PointNo) := point_toldNormal (returnedNormal s p ql) p x
    have areas (a : AreaNo) : (toldNormal (returnedNormal s p ql) p).area a = (returnedNormal s p ql).area a := by
      rw [toldNormal_eq]
      rfl
    simp only [isMember_iff, rearms_iff] at groups marks
    rw [whole]
    refine ⟨?_, groups, marks, ?_, fun x other => ?_, ?_, fun a other => ?_, ?_⟩
    · have point := points p
      rw [(returnedNormal_steps s p ql).mark, point_returnedNormal, if_pos rfl] at point
      exact point
    · rw [toldNormal_eq]
      exact accept_fifo ..
    · have point := points x
      rw [(returnedNormal_steps s p ql).mark, point_returnedNormal, if_neg (Ne.symm other)] at point
      exact point
    · rw [areas]
      exact (State.area_setArea ..).trans (if_pos rfl)
    · rw [areas]
      exact (State.area_setArea ..).trans (if_neg (Ne.symm other))
    · rw [toldNormal_eq]
      rfl
  · have rests : stepInput offer (s.setPoint p { q with quality := ql, input := i }) p = _ := stepInput_rests offer
      (by rw [took]; exact state)
    exact (changed differ).trans rests

end Sys2Proof.Proofs
end

section
/-! A completed acknowledgement: R20, R34, R39, R53, R125. -/

namespace Sys2Proof.Machine

variable {s : State} {p : PointNo} {c : Console} {op : Nat} {override : Bool}

/-! ## The point's step (R34) -/

theorem acknowledged_state (s : State) (p : PointNo) (c : Console) (op : Nat) (override : Bool) :
    (acknowledged s p c op override).state = if (s.point p).state = .raised then .standing else .normal := by
  unfold acknowledged Point.acknowledge
  dsimp only
  split <;> rfl

theorem acknowledged_cfg (s : State) (p : PointNo) (c : Console) (op : Nat) (override : Bool) :
    (acknowledged s p c op override).cfg = (s.point p).cfg := acknowledge_cfg ..

theorem acknowledged_fields (s : State) (p : PointNo) (c : Console) (op : Nat) (override : Bool) :
    (acknowledged s p c op override).ackSet = [] ∧
    (acknowledged s p c op override).ack = some ⟨s.journalClock, c, op, override⟩ ∧
    (acknowledged s p c op override).raiseTime = (s.point p).raiseTime ∧
    (acknowledged s p c op override).serial = (if (s.point p).state = .raised then (s.point p).serial else none) ∧
    (acknowledged s p c op override).quiet = (if (s.point p).state = .raised then (s.point p).quiet else false) ∧
    (acknowledged s p c op override).firstMark = (s.point p).firstMark := by
  unfold acknowledged Point.acknowledge
  dsimp only
  by_cases raised : (s.point p).state = .raised
  · simp [raised]
  · simp [raised, Point.endEpisode]

/-- 2.1: an acknowledgement configures nothing. -/
theorem acknowledged_settings (s : State) (p : PointNo) (c : Console) (op : Nat) (override : Bool) :
    (acknowledged s p c op override).configured = (s.point p).configured ∧
    (acknowledged s p c op override).area = (s.point p).area ∧
    (acknowledged s p c op override).group = (s.point p).group := by
  have cfg := acknowledged_cfg s p c op override
  have configured := congrArg Point.configured cfg
  have area := congrArg Point.area cfg
  have group := congrArg Point.group cfg
  exact ⟨configured, area, group⟩

/-- R39: an acknowledged point leaves its priority's count, and joins the standing count where it was RAISED. -/
theorem recount_acknowledged (configured : (s.point p).configured = true)
    (unacknowledged : (s.point p).unacknowledged = true) (e : Area) :
    (recount (s.point p).area (s.point p) (acknowledged s p c op override) e).unack.get (s.point p).priority =
        e.unack.get (s.point p).priority - 1 ∧
      (recount (s.point p).area (s.point p) (acknowledged s p c op override) e).standing =
        e.standing + (if (s.point p).state = .raised then 1 else 0) := by
  obtain ⟨still, area, -⟩ := acknowledged_settings s p c op override
  have configured' := still.trans configured
  have state := acknowledged_state s p c op override
  have was (pr : Priority) : countsUnack (s.point p) (s.point p).area pr = ((s.point p).priority == pr) := by
    simp [countsUnack, configured, unacknowledged]
  have now (pr : Priority) : countsUnack (acknowledged s p c op override) (s.point p).area pr = false := by
    rw [countsUnack, Point.unacknowledged, state]
    split <;> simp
  have stood : countsStanding (s.point p) (s.point p).area = false := by
    rw [Point.unacknowledged] at unacknowledged
    rw [countsStanding]
    cases state : (s.point p).state <;> rw [state] at unacknowledged <;> simp at unacknowledged ⊢
  have stands : countsStanding (acknowledged s p c op override) (s.point p).area =
      decide ((s.point p).state = .raised) := by
    rw [countsStanding, configured', area, state]
    by_cases raised : (s.point p).state = .raised <;> simp [raised]
  refine ⟨?_, ?_⟩
  · simp only [recount, was, now]
    cases (s.point p).priority <;> rfl
  · simp only [recount, stood, stands]
    by_cases raised : (s.point p).state = .raised <;> simp [raised, bump]

/-! ## The whole step, in a journal with room -/

/-- R34: the point's step and its ACK record, before the first-out unit is told. -/
def ackStepped (s : State) (p : PointNo) (c : Console) (op : Nat) (override : Bool) : State :=
  { stepAck s p c op override with
    journal := s.journal.accept (journalRecord s .ack .accountable p c (BitVec.ofBool override ++ 0#5) op
      (value12 (acknowledged s p c op override).state.code)) }

theorem stepAck_journal (s : State) (p : PointNo) (c : Console) (op : Nat) (override : Bool) :
    (stepAck s p c op override).journal = s.journal := by
  unfold stepAck ackPartnerEvents
  change (State.setPoint _ p _).journal = _
  rw [State.setPoint_eq]
  split
  · rw [setFlagAt_eq]
  · rfl

theorem point_stepAck (s : State) (p x : PointNo) (c : Console) (op : Nat) (override : Bool) :
    (stepAck s p c op override).point x = if p = x then acknowledged s p c op override else s.point x := by
  have partner : (ackPartnerEvents c (s.point p).ackSet s).point x = s.point x := by
    unfold ackPartnerEvents
    split
    · rw [setFlagAt_eq]
      rfl
    · rfl
  unfold stepAck
  refine (State.point_setPoint ..).trans ?_
  rw [partner]

theorem completeAckWith_calm {off : Offer} (takes : ∀ (t : State) (r : JournalRecord), t.calm 1 →
    off t r = { t with journal := t.journal.accept r }) (calm : s.calm 1) :
    completeAckWith off s p c op override =
      if (acknowledged s p c op override).state = .normal then toldNormal (ackStepped s p c op override) p
      else ackStepped s p c op override := by
  have journal := stepAck_journal s p c op override
  have calm' : (stepAck s p c op override).calm 1 := by
    rw [State.calm, journal]
    exact calm
  have time : (stepAck s p c op override).time = s.time := (stepAck_seq s p c op override).time
  have record : ackRecord (stepAck s p c op override) p c op override =
      journalRecord s .ack .accountable p c (BitVec.ofBool override ++ 0#5) op
        (value12 (acknowledged s p c op override).state.code) := by
    rw [ackRecord, point_stepAck, if_pos rfl]
    exact journalRecord_congr time ..
  unfold completeAckWith
  dsimp only
  rw [takes _ _ calm', record, journal]
  rfl

theorem offerRecord_calm (calm : s.calm 1) (r : JournalRecord) :
    offerRecord s r = { s with journal := s.journal.accept r } := by
  obtain ⟨clear, -, room⟩ := calm
  rw [offerRecord_taken (by rw [clear]; exact Bool.false_ne_true) (by cases r.cls <;> simp only [classLimit] <;> omega),
    accept_eq]

theorem completeAck_calm (calm : s.calm 1) : completeAck s p c op override =
    if (acknowledged s p c op override).state = .normal then toldNormal (ackStepped s p c op override) p
    else ackStepped s p c op override := by
  have given (t : State) (journal : t.journal = (ackStepped s p c op override).journal) : settle510 t = t := by
    refine settle510_none ?_
    rw [journal]
    exact (accept_lossEvents ..).trans calm.2.1
  unfold completeAck handled
  dsimp only
  split
  · rw [completeAckWith_calm (fun t r k => offerRecord_calm k r) calm]
    split
    · exact given _ (by rw [toldNormal_eq])
    · exact given _ rfl
  · exact completeAckWith_calm (fun t r k => offer_calm (n := 0) k) calm

/-! ## What the step writes -/

theorem ackStepped_point (s : State) (p x : PointNo) (c : Console) (op : Nat) (override : Bool) :
    (ackStepped s p c op override).point x = if p = x then acknowledged s p c op override else s.point x :=
  point_stepAck ..

theorem ackPartnerEvents_eq (c : Console) (set : List Console) (s : State) :
    ackPartnerEvents c set s = { s with ports := (ackPartnerEvents c set s).ports } := by
  unfold ackPartnerEvents
  split
  · exact setFlagAt_eq ..
  · rfl

theorem ackStepped_area (s : State) (p : PointNo) (c : Console) (op : Nat) (override : Bool) (a : AreaNo) :
    (ackStepped s p c op override).area a = recount a (s.point p) (acknowledged s p c op override) (s.area a) := by
  refine (State.area_setPoint ..).trans ?_
  rw [ackPartnerEvents_eq]
  rfl

theorem ackStepped_groups (s : State) (p : PointNo) (c : Console) (op : Nat) (override : Bool) :
    (ackStepped s p c op override).groups = s.groups := by
  change (State.setPoint _ p _).groups = _
  rw [State.setPoint_eq, ackPartnerEvents_eq]

theorem ackStepped_horn (s : State) (p : PointNo) (c : Console) (op : Nat) (override : Bool) (d : Console) :
    (ackStepped s p c op override).horn d =
      { s.horn d with silenced := (s.horn d).silenced.filter (· ≠ p) } := by
  refine (horn_unsilence ..).trans ?_
  rw [State.setPoint_eq, ackPartnerEvents_eq]
  rfl

/-- R20: ACK_PARTNER at the consoles of the ack set, where one other than the completing console is in it. -/
theorem ackStepped_flags (s : State) (p : PointNo) (c : Console) (op : Nat) (override : Bool) (d : Console) :
    ((ackStepped s p c op override).port d).flags =
      if d ∈ (s.point p).ackSet ∧ (∃ e ∈ (s.point p).ackSet, e ≠ c) then (s.port d).flags ||| EventFlag.ackPartner.bit
      else (s.port d).flags := by
  have port : (ackStepped s p c op override).port d = (ackPartnerEvents c (s.point p).ackSet s).port d := by
    change (State.setPoint _ p _).port d = _
    rw [State.setPoint_eq]
    rfl
  have partner : (s.point p).ackSet.any (· != c) = true ↔ ∃ e ∈ (s.point p).ackSet, e ≠ c := by simp
  rw [port, ackPartnerEvents]
  by_cases other : (s.point p).ackSet.any (· != c) = true
  · have held := partner.mp other
    rw [if_pos other, port_setFlagAt]
    by_cases here : d ∈ (s.point p).ackSet
    · rw [if_pos here, if_pos ⟨here, held⟩]
      rfl
    · rw [if_neg here, if_neg fun both => here both.1]
  · rw [if_neg other, if_neg fun both => other (partner.mpr both.2)]

/-- R34: an acknowledgement's step of a RETURNED point to NORMAL. -/
theorem ackStepped_steps (returned : (s.point p).state = .returned) :
    StepsToNormal s (ackStepped s p c op override) p where
  member x g := by
    rw [ackStepped_point]
    split
    · next same =>
      subst same
      obtain ⟨configured, -, group⟩ := acknowledged_settings s p c op override
      rw [isMember, memberGroup, group, configured]
      rfl
    · rfl
  mark x := by
    rw [ackStepped_point]
    split
    · next same =>
      subst same
      exact (acknowledged_fields ..).2.2.2.2.2
    · rfl
  groups := ackStepped_groups ..
  normal := by
    rw [ackStepped_point, if_pos rfl, acknowledged_state, returned]
    rfl
  others x other := by rw [ackStepped_point, if_neg (Ne.symm other)]

/-- R53: two states apart in groups and first marks alone. -/
structure SameButMarks (t t' : State) : Prop where
  points : ∀ x, { t'.point x with firstMark := (t.point x).firstMark } = t.point x
  rest : t' = { t with points := t'.points, groups := t'.groups }

theorem toldNormal_sameButMarks (t : State) (p : PointNo) : SameButMarks t (toldNormal t p) :=
  ⟨point_toldNormal t p, toldNormal_eq t p⟩

theorem SameButMarks.refl (t : State) : SameButMarks t t := ⟨fun _ => rfl, rfl⟩

end Sys2Proof.Machine

namespace Sys2Proof.Proofs

open Sys2Proof.Machine

/-- Settles O18. -/
theorem acknowledgementCompletes : Obligations.AcknowledgementCompletes := by
  intro s p c op override q t reached member rearms calm configured state
  let u := ackStepped s p c op override
  have whole := completeAck_calm (p := p) (c := c) (op := op) (override := override) calm
  have step : (acknowledged s p c op override).state = reached := acknowledged_state ..
  have rearms_iff (g : GroupNo) : rearmsBy s p g ∧ q.state = .returned ↔ rearms g := by
    simp only [rearmsBy, isMember_iff]
    exact and_comm
  have unacknowledged : (s.point p).unacknowledged = true := by
    rw [Point.unacknowledged]
    rcases state with state | state <;> rw [state] <;> rfl
  obtain ⟨same, groups, marks⟩ : SameButMarks u t ∧
      (∀ g : GroupNo, (rearms g → t.groups[g] = .armed ∧ ∀ x, member g (s.point x) → (t.point x).firstMark = none) ∧
        (¬ rearms g → t.groups[g] = s.groups[g] ∧
          ∀ x, member g (s.point x) → (t.point x).firstMark = (s.point x).firstMark)) ∧
      (∀ x, (∀ g, ¬ member g (s.point x)) → (t.point x).firstMark = (s.point x).firstMark) := by
    rcases state with raised | returned
    · have stays : t = u := by
        refine whole.trans (if_neg ?_)
        rw [step]
        simp only [reached, raised, if_true]
        decide
      have mark (x : PointNo) : (u.point x).firstMark = (s.point x).firstMark := by
        rw [ackStepped_point]
        split
        · next same =>
          subst same
          exact (acknowledged_fields ..).2.2.2.2.2
        · rfl
      rw [stays]
      refine ⟨.refl u, fun g => ⟨fun h => ?_, fun _ => ⟨?_, fun x _ => mark x⟩⟩, fun x _ => mark x⟩
      · exact absurd (raised.symm.trans h.1) (by decide)
      · rw [ackStepped_groups]
    · have told : t = toldNormal u p := by
        refine whole.trans (if_pos ?_)
        rw [step]
        simp only [reached, returned]
        rfl
      have unit := (ackStepped_steps (c := c) (op := op) (override := override) returned).told
      have rearms_iff (g : GroupNo) : rearmsBy s p g ↔ rearms g := by
        rw [← rearms_iff, and_iff_left returned]
      simp only [isMember_iff, rearms_iff] at unit
      rw [told]
      exact ⟨toldNormal_sameButMarks u p, unit⟩
  obtain ⟨points, rest⟩ := same
  have area (a : AreaNo) : t.area a = recount a q (acknowledged s p c op override) (s.area a) := by
    rw [rest]
    exact ackStepped_area ..
  have horn (d : Console) : t.horn d = _ := (congrArg (State.horn · d) rest).trans (ackStepped_horn s p c op override d)
  have point : { t.point p with firstMark := (acknowledged s p c op override).firstMark } =
      acknowledged s p c op override := by
    have point := points p
    rwa [ackStepped_point, if_pos rfl] at point
  have field {α : Type} (f : Point → α)
      (still : f (t.point p) = f { t.point p with firstMark := (acknowledged s p c op override).firstMark }) :
      f (t.point p) = f (acknowledged s p c op override) := by rw [still, point]
  obtain ⟨ackSet, ack, raiseTime, serial, quiet, -⟩ := acknowledged_fields s p c op override
  obtain ⟨unack, standing⟩ := recount_acknowledged (c := c) (op := op) (override := override) configured unacknowledged
    (s.area q.area)
  refine ⟨(field Point.state rfl).trans step, (field Point.ackSet rfl).trans ackSet, (field Point.ack rfl).trans ack,
    (field Point.raiseTime rfl).trans raiseTime, (field Point.serial rfl).trans serial,
    (field Point.quiet rfl).trans quiet, ?_, ?_, fun a other => ?_, fun x other => ?_, groups, marks, ?_, fun d => ?_,
    fun d => ?_⟩
  · rw [area]
    exact unack
  · rw [area]
    exact standing
  · have home : (acknowledged s p c op override).area = q.area := (acknowledged_settings ..).2.1
    rw [area]
    exact recount_elsewhere (Ne.symm other) (by rw [home]; exact Ne.symm other) _
  · have point := points x
    rwa [ackStepped_point, if_neg (Ne.symm other)] at point
  · rw [rest, ← step]
    exact accept_fifo ..
  · rw [horn]
    exact ⟨rfl, rfl⟩
  · rw [rest]
    exact ackStepped_flags s p c op override d

end Sys2Proof.Proofs
end

section
/-! A raise, step by step: R30, R31, R51, R52, R71 to R73, R79, R97, R98, R125, R128. -/

namespace Sys2Proof.Machine

variable {s : State} {p : PointNo} {a : AreaNo} {pr : Priority}

/-! ## Records a step offers in a journal with room -/

/-- R155: the records that a step has the FIFO take, in a journal with room for them. -/
structure Takes (s t : State) (l : List JournalRecord) : Prop where
  fifo : t.journal.fifo = s.journal.fifo ++ l
  pending : t.journal.lossPending = s.journal.lossPending
  events : t.journal.lossEvents = s.journal.lossEvents

theorem Takes.calm {t : State} {l : List JournalRecord} {k n : Nat} (h : Takes s t l) (room : l.length + n ≤ k)
    (calm : s.calm k) : t.calm n := by
  obtain ⟨clear, quiet, places⟩ := calm
  refine ⟨h.pending.trans clear, h.events.trans quiet, ?_⟩
  rw [h.fifo, List.length_append]
  omega

theorem Takes.none {t : State} (same : t.journal = s.journal) : Takes s t [] := by
  refine ⟨?_, ?_, ?_⟩ <;> rw [same]
  exact (List.append_nil _).symm

theorem Takes.one {t : State} {r : JournalRecord} (took : t.journal = s.journal.accept r) : Takes s t [r] := by
  refine ⟨?_, ?_, ?_⟩ <;> rw [took]
  · exact accept_fifo ..
  · exact accept_lossPending ..
  · exact accept_lossEvents ..

theorem Takes.then {t u : State} {l l' : List JournalRecord} (h : Takes s t l) (h' : Takes t u l') :
    Takes s u (l ++ l') where
  fifo := by rw [h'.fifo, h.fifo, List.append_assoc]
  pending := h'.pending.trans h.pending
  events := h'.events.trans h.events

/-! ## The flood step (R71, R72) -/

/-- R71: the load that a raise brings an area to. -/
def raisedLoad (s : State) (a : AreaNo) (pr : Priority) : Nat := min 32767 ((s.area a).load + s.weights.get pr)

/-- R72: a raise begins an area's flood. -/
abbrev floodsAt (s : State) (a : AreaNo) (pr : Priority) : Prop :=
  (s.area a).flood = .normal ∧ (s.area a).tOn ≤ raisedLoad s a pr

/-- R71, R72: an area as a raise's flood step leaves it. -/
def loadedArea (s : State) (a : AreaNo) (pr : Priority) : Area :=
  { s.area a with
    load := raisedLoad s a pr, flood := if floodsAt s a pr then .flood else (s.area a).flood }

/-- R72: the record of a flood's onset. -/
def floodOnRecord (s : State) (a : AreaNo) (pr : Priority) : JournalRecord :=
  areaRecord s .floodOn .routine a a 0#6 (valueHalves (raisedLoad s a pr) (s.area a).tOn)

theorem floodRaise_rests (off : Offer) (h : ¬ floodsAt s a pr) :
    floodRaise off s a pr = s.setArea a (loadedArea s a pr) := by
  unfold loadedArea
  rw [if_neg h]
  refine if_neg ?_
  rw [Bool.and_eq_true, decide_eq_true_eq, decide_eq_true_eq]
  exact h

theorem floodRaise_floods (h : floodsAt s a pr) (calm : s.calm 1) : floodRaise offer s a pr =
    floodTold (s.setArea a (loadedArea s a pr)) a (floodOnRecord s a pr) := by
  have twice (x y : Area) : (s.setArea a x).setArea a y = s.setArea a y := by simp [State.setArea]
  have calm' (x : Area) : (s.setArea a x).calm (0 + 1) := calm
  unfold floodRaise loadedArea
  dsimp only
  rw [if_pos h, if_pos (by rw [Bool.and_eq_true, decide_eq_true_eq, decide_eq_true_eq]; exact h), twice,
    offer_calm (calm' _), areaRecord, State.area_setArea, if_pos rfl]
  rfl

theorem floodRaise_eq (calm : s.calm 1) (a : AreaNo) (pr : Priority) : floodRaise offer s a pr =
    { s.setArea a (loadedArea s a pr) with
      journal := (floodRaise offer s a pr).journal, ports := (floodRaise offer s a pr).ports
      records := (floodRaise offer s a pr).records } := by
  by_cases floods : floodsAt s a pr
  · rw [floodRaise_floods floods calm, floodTold_eq]
  · rw [floodRaise_rests offer floods]

theorem floodRaise_takes (calm : s.calm 1) (a : AreaNo) (pr : Priority) :
    Takes s (floodRaise offer s a pr) (if floodsAt s a pr then [floodOnRecord s a pr] else []) := by
  by_cases floods : floodsAt s a pr
  · rw [floodRaise_floods floods calm, if_pos floods, floodTold_eq]
    exact .one rfl
  · rw [floodRaise_rests offer floods, if_neg floods]
    exact .none rfl

/-- R72: FLOOD at the consoles in scope. -/
theorem port_floodRaise (calm : s.calm 1) (a : AreaNo) (pr : Priority) (d : Console) :
    (floodRaise offer s a pr).port d =
      if floodsAt s a pr ∧ (s.horn d).scope.getLsbD a = true then (s.port d).raised .flood else s.port d := by
  by_cases floods : floodsAt s a pr
  · rw [floodRaise_floods floods calm, port_floodTold]
    exact if_congr (and_iff_right floods).symm rfl rfl
  · rw [floodRaise_rests offer floods, if_neg fun both => floods both.1]
    rfl

/-- R79: the onset of a flood judges the hold of the area's REVIEWING record. -/
theorem record_floodRaise_held (calm : s.calm 1) (floods : floodsAt s a pr) {n : RecordNo}
    (named : (s.area a).record = some n) (reviewing : (s.record n).phase = .reviewing) :
    (floodRaise offer s a pr).record n = { s.record n with
      held := decide (∃ b : AreaNo, (s.record n).areas.getLsbD b = true ∧
        ((floodRaise offer s a pr).area b).flood = .flood) } := by
  have area (b : AreaNo) : (floodRaise offer s a pr).area b = (s.setArea a (loadedArea s a pr)).area b := by
    rw [floodRaise_eq calm]
    rfl
  have named' : ((s.setArea a (loadedArea s a pr)).area a).record = some n := by
    rw [State.area_setArea, if_pos rfl]
    exact named
  simp only [area]
  rw [floodRaise_floods floods calm, record_floodTold, record_judgeHold named' reviewing]
  rfl

theorem record_floodRaise_other (calm : s.calm 1) {n : RecordNo}
    (other : ¬ floodsAt s a pr ∨ (s.area a).record ≠ some n ∨ (s.record n).phase ≠ .reviewing) :
    (floodRaise offer s a pr).record n = s.record n := by
  by_cases floods : floodsAt s a pr
  · rw [floodRaise_floods floods calm, record_floodTold, record_judgeHold_other]
    · rfl
    · intro named
      rw [State.area_setArea, if_pos rfl] at named
      exact other.elim (absurd floods) fun o => o.elim (absurd named) id
  · rw [floodRaise_rests offer floods]
    rfl

/-! ## The first mark (R51, R52) -/

/-- R51, R52: the mark that a raised point then shows. -/
def markAt (s : State) (q : Point) : Option FirstMark :=
  match memberGroup q with
  | none => q.firstMark
  | some g =>
    match s.groups[g] with
    | .armed => some .first
    | .tripped _ => some (q.firstMark.getD .follower)

/-- R51: a raise trips an ARMED group. -/
abbrev tripsGroup (s : State) (q : Point) (g : GroupNo) : Prop := memberGroup q = some g ∧ s.groups[g] = .armed

/-- R51: the record of a group's first point. -/
def firstOutRecord (s : State) (p : PointNo) (g : GroupNo) : JournalRecord :=
  areaRecord s .firstOut .accountable (g + 1) (s.point p).area 0#6
    (BitVec.ofNat 16 p ++ BitVec.ofNat 8 (s.point p).area ++ 0#8)

theorem putPoint_point (s : State) (p : PointNo) : s.putPoint p (s.point p) = s := by
  simp [State.putPoint, State.point]

theorem firstOutRaise_trips {g : GroupNo} (trips : tripsGroup s (s.point p) g) (calm : s.calm 1) :
    firstOutRaise offer s p =
      { s.putPoint p { s.point p with firstMark := markAt s (s.point p) } with
        groups := s.groups.set g (.tripped p), journal := s.journal.accept (firstOutRecord s p g) } := by
  obtain ⟨grouped, armed⟩ := trips
  have kept : Kept s { s.putPoint p { s.point p with firstMark := some .first } with groups := s.groups.set g (.tripped p) } :=
    ((putPoint_seq s p _ (by rfl)).trans (Sequenced.ofGroups _)).toKept
  have calm' : State.calm { s.putPoint p { s.point p with firstMark := some .first } with
    groups := s.groups.set g (.tripped p) } (0 + 1) := calm
  unfold firstOutRaise
  dsimp only
  rw [grouped]
  dsimp only
  rw [armed]
  dsimp only
  rw [offer_calm calm', areaRecord_kept kept, markAt, grouped]
  dsimp only
  rw [armed]
  rfl

theorem firstOutRaise_rests (off : Offer) (rests : ∀ g, ¬ tripsGroup s (s.point p) g) :
    firstOutRaise off s p = s.putPoint p { s.point p with firstMark := markAt s (s.point p) } := by
  unfold firstOutRaise markAt
  dsimp only
  cases grouped : memberGroup (s.point p) with
  | none => exact (putPoint_point s p).symm
  | some g =>
    dsimp only
    cases state : s.groups[g] with
    | armed => exact absurd ⟨grouped, state⟩ (rests g)
    | tripped first =>
      dsimp only
      cases mark : (s.point p).firstMark with
      | none => rfl
      | some m =>
        dsimp only
        rw [Option.getD_some, ← mark]
        exact (putPoint_point s p).symm

theorem firstOutRaise_eq (calm : s.calm 1) (p : PointNo) : firstOutRaise offer s p =
    { s.putPoint p { s.point p with firstMark := markAt s (s.point p) } with
      groups := (firstOutRaise offer s p).groups, journal := (firstOutRaise offer s p).journal } := by
  by_cases trips : ∃ g, tripsGroup s (s.point p) g
  · obtain ⟨g, trips⟩ := trips
    rw [firstOutRaise_trips trips calm]
  · rw [firstOutRaise_rests offer fun g h => trips ⟨g, h⟩]

theorem firstOutRaise_groups (calm : s.calm 1) (p : PointNo) (g : GroupNo) : (firstOutRaise offer s p).groups[g] =
    if tripsGroup s (s.point p) g then .tripped p else s.groups[g] := by
  by_cases trips : ∃ g, tripsGroup s (s.point p) g
  · obtain ⟨g', trips⟩ := trips
    rw [firstOutRaise_trips trips calm]
    by_cases same : g' = g
    · subst same
      rw [if_pos trips]
      exact Vector.getElem_set_self ..
    · rw [if_neg fun h => same (Option.some_inj.mp (trips.1.symm.trans h.1))]
      exact Vector.getElem_set_ne g'.isLt g.isLt (Fin.val_ne_of_ne same)
  · rw [firstOutRaise_rests offer fun g h => trips ⟨g, h⟩, if_neg fun h => trips ⟨g, h⟩]
    rfl

theorem firstOutRaise_takes (calm : s.calm 1) (p : PointNo) : ∃ l, Takes s (firstOutRaise offer s p) l ∧
    (∀ g, tripsGroup s (s.point p) g → l = [firstOutRecord s p g]) ∧
    ((¬ ∃ g, tripsGroup s (s.point p) g) → l = []) := by
  by_cases trips : ∃ g, tripsGroup s (s.point p) g
  · obtain ⟨g, trips⟩ := trips
    refine ⟨[firstOutRecord s p g], ?_, fun g' h => ?_, fun h => absurd ⟨g, trips⟩ h⟩
    · rw [firstOutRaise_trips trips calm]
      exact .one rfl
    · rw [Option.some_inj.mp (trips.1.symm.trans h.1)]
  · refine ⟨[], ?_, fun g h => absurd ⟨g, h⟩ trips, fun _ => rfl⟩
    rw [firstOutRaise_rests offer fun g h => trips ⟨g, h⟩]
    exact .none rfl

/-! ## Item 0 of the area's record (R97, R98) -/

theorem port_setFlagParty (f : EventFlag) (c : Option Console) (s : State) (d : Console) :
    (setFlagParty f c s).port d = if c = some d then (s.port d).raised f else s.port d := by
  cases c with
  | none => rfl
  | some c =>
    refine (port_setFlag ..).trans ?_
    exact if_congr Option.some_inj.symm rfl rfl

/-- R98: a console is told of a change of a record's item sets. -/
def checklistTells (was now : HoRecord) (d : Console) : Prop := now.phase = .reviewing ∧
  ((now.outConsole = some d ∧ toldOfChange now.outNotify now.outWatch was now = true) ∨
    (now.inConsole = some d ∧ toldOfChange now.inNotify now.inWatch was now = true))

theorem port_checklistEvents (was now : HoRecord) (s : State) (d : Console) :
    (checklistTells was now d → (checklistEvents was now s).port d = (s.port d).raised .checklist) ∧
    (¬ checklistTells was now d → (checklistEvents was now s).port d = s.port d) := by
  unfold checklistEvents checklistTells
  by_cases reviewing : now.phase = .reviewing
  · rw [if_pos reviewing]
    dsimp only
    cases toldOfChange now.outNotify now.outWatch was now <;> cases toldOfChange now.inNotify now.inWatch was now <;>
      by_cases out : now.outConsole = some d <;> by_cases inn : now.inConsole = some d <;>
      simp [reviewing, port_setFlagParty, out, inn, Port.raised_raised]
  · rw [if_neg reviewing]
    exact ⟨fun h => absurd h.1 reviewing, fun _ => rfl⟩

theorem checklistEvents_ports (was now : HoRecord) (s : State) :
    checklistEvents was now s = { s with ports := (checklistEvents was now s).ports } := by
  have party (c : Option Console) (s : State) : setFlagParty .checklist c s =
      { s with ports := (setFlagParty .checklist c s).ports } := by cases c <;> rfl
  unfold checklistEvents
  dsimp only
  split
  · split <;> split
    · rw [party, party]
    · rw [party]
    · rw [party]
    · rfl
  · rfl

/-- R97: a record with item 0 no longer confirmed. -/
def HoRecord.unconfirmed0 (h : HoRecord) : HoRecord := { h with confirmed := h.confirmed &&& ~~~1#16 }

theorem clearItem0_unnamed (none' : (s.area a).record = none) : clearItem0 s a = s := by
  unfold clearItem0
  rw [none']

theorem clearItem0_free {n : RecordNo} (named : (s.area a).record = some n) (free : (s.record n).phase = .free) :
    clearItem0 s a = s := by
  unfold clearItem0
  rw [named]
  exact if_neg fun live => (HoRecord.live_iff _).mp live free

theorem clearItem0_live {n : RecordNo} (named : (s.area a).record = some n) (live : (s.record n).phase ≠ .free) :
    clearItem0 s a = checklistEvents (s.record n) (s.record n).unconfirmed0 (s.setRecord n (s.record n).unconfirmed0) := by
  unfold clearItem0
  rw [named]
  exact if_pos ((HoRecord.live_iff _).mpr live)

/-- R97: a raise clears item 0 of the area's live record, and of no other. -/
theorem clearItem0_cases (s : State) (a : AreaNo) :
    ((∀ n, (s.area a).record = some n → (s.record n).phase = .free) ∧ clearItem0 s a = s) ∨
    ∃ n, (s.area a).record = some n ∧ (s.record n).phase ≠ .free ∧ clearItem0 s a =
      checklistEvents (s.record n) (s.record n).unconfirmed0 (s.setRecord n (s.record n).unconfirmed0) := by
  cases named : (s.area a).record with
  | none => exact .inl ⟨fun n h => (Option.some_ne_none n h.symm).elim, clearItem0_unnamed named⟩
  | some m =>
    by_cases free : (s.record m).phase = .free
    · exact .inl ⟨fun n h => Option.some_inj.mp h ▸ free, clearItem0_free named free⟩
    · exact .inr ⟨m, rfl, free, clearItem0_live named free⟩

theorem clearItem0_eq (s : State) (a : AreaNo) :
    clearItem0 s a = { s with records := (clearItem0 s a).records, ports := (clearItem0 s a).ports } := by
  rcases clearItem0_cases s a with ⟨-, same⟩ | ⟨n, -, -, clears⟩
  · rw [same]
  · rw [clears, checklistEvents_ports]
    rfl

theorem record_clearItem0 (s : State) (a : AreaNo) (n : RecordNo) : (clearItem0 s a).record n =
    if (s.area a).record = some n ∧ (s.record n).phase ≠ .free then (s.record n).unconfirmed0 else s.record n := by
  rcases clearItem0_cases s a with ⟨none', same⟩ | ⟨m, named, live, clears⟩
  · rw [same, if_neg fun h => h.2 (none' n h.1)]
  · rw [clears, checklistEvents_ports]
    refine (State.record_setRecord ..).trans ?_
    by_cases here : m = n
    · subst here
      rw [if_pos rfl, if_pos ⟨named, live⟩]
    · rw [if_neg here, if_neg fun h => here (Option.some_inj.mp (named.symm.trans h.1))]

/-- R98: a console is told that item 0 of an area's record is no longer confirmed. -/
def itemTells (s : State) (a : AreaNo) (d : Console) : Prop := ∃ n, (s.area a).record = some n ∧
  checklistTells (s.record n) (s.record n).unconfirmed0 d

theorem port_clearItem0 (s : State) (a : AreaNo) (d : Console) :
    (itemTells s a d → (clearItem0 s a).port d = (s.port d).raised .checklist) ∧
    (¬ itemTells s a d → (clearItem0 s a).port d = s.port d) := by
  rcases clearItem0_cases s a with ⟨none', same⟩ | ⟨m, named, live, clears⟩
  · rw [same]
    refine ⟨fun ⟨n, h, reviewing, _⟩ => ?_, fun _ => rfl⟩
    exact absurd ((none' n h).symm.trans reviewing) (by decide)
  · obtain ⟨told, untold⟩ := port_checklistEvents (s.record m) (s.record m).unconfirmed0
      (s.setRecord m (s.record m).unconfirmed0) d
    rw [clears]
    refine ⟨fun ⟨n, h, tells⟩ => ?_, fun none' => untold fun tells => none' ⟨m, named, tells⟩⟩
    obtain rfl := Option.some_inj.mp (named.symm.trans h)
    exact told tells

/-! ## NEW_ALARM and the chirp (R31, R128) -/

theorem announceRaise_eq (s : State) (a : AreaNo) (pr : Priority) (quiet : Bool) : announceRaise s a pr quiet =
    { s with ports := (announceRaise s a pr quiet).ports, horns := (announceRaise s a pr quiet).horns } := by
  unfold announceRaise
  split
  · rfl
  · split
    · unfold startChirps
      rw [setFlagInScope_eq]
    · rw [setFlagInScope_eq]

theorem port_announceRaise (s : State) (a : AreaNo) (pr : Priority) (quiet : Bool) (d : Console) :
    (announceRaise s a pr quiet).port d =
      if quiet = false ∧ (s.horn d).scope.getLsbD a = true then (s.port d).raised .newAlarm else s.port d := by
  unfold announceRaise
  cases quiet with
  | true => simp
  | false =>
    have loud : (setFlagInScope .newAlarm s a).port d =
        if false = false ∧ (s.horn d).scope.getLsbD a = true then (s.port d).raised .newAlarm else s.port d :=
      (port_setFlagInScope ..).trans (if_congr (and_iff_right rfl).symm rfl rfl)
    rw [if_neg Bool.false_ne_true]
    split
    · exact loud
    · exact loud

theorem horn_announceRaise (s : State) (a : AreaNo) (pr : Priority) (quiet : Bool) (d : Console) :
    (announceRaise s a pr quiet).horn d = { s.horn d with
      chirp := if quiet = false ∧ pr = .p4 ∧ (s.horn d).scope.getLsbD a = true then some (s.time.runClock + 500#32)
        else (s.horn d).chirp } := by
  unfold announceRaise
  cases quiet with
  | true => simp
  | false =>
    rw [if_neg Bool.false_ne_true]
    split
    · next p4 =>
      unfold startChirps
      rw [setFlagInScope_eq]
      refine (mapTable_getElem ..).trans ?_
      change (if (s.horn d).scope.getLsbD a = true then _ else s.horn d) = _
      by_cases scope : (s.horn d).scope.getLsbD a = true
      · rw [if_pos scope, if_pos ⟨rfl, p4, scope⟩]
        rfl
      · rw [if_neg scope, if_neg fun h => scope h.2.2]
    · next other =>
      rw [setFlagInScope_eq, if_neg fun h => other h.2.1]
      rfl

end Sys2Proof.Machine
end

section
/-! What a raise comes to, its steps put together: R30, R31. -/

namespace Sys2Proof.Machine

variable {s : State} {p : PointNo}

/-! ## The new episode (R30, R39) -/

/-- R30: a point at the start of an episode of its own. -/
def episode (s : State) (p : PointNo) : Point := (s.point p).startEpisode s.serialNext s.journalClock

theorem startRaise_eq (s : State) (p : PointNo) : startRaise s p =
    { s with
      points := s.points.set p (episode s p), areas := (startRaise s p).areas, horns := (startRaise s p).horns
      serialNext := nextSerial s.serialNext } := by
  unfold startRaise
  rw [State.setPoint_eq]
  rfl

theorem point_startRaise (s : State) (p x : PointNo) :
    (startRaise s p).point x = if p = x then episode s p else s.point x :=
  State.point_setPoint ..

theorem area_startRaise (s : State) (p : PointNo) (b : AreaNo) :
    (startRaise s p).area b = recount b (s.point p) (episode s p) (s.area b) :=
  State.area_setPoint ..

theorem horn_startRaise (s : State) (p : PointNo) (d : Console) :
    (startRaise s p).horn d = { s.horn d with silenced := (s.horn d).silenced.filter (· ≠ p) } := by
  refine (horn_unsilence ..).trans ?_
  rw [State.setPoint_eq]
  rfl

/-- R39: a raise from NORMAL, RETURNED or the shelf, in its area's counts. -/
theorem recount_episode (configured : (s.point p).configured = true)
    (state : (s.point p).state = .normal ∨ (s.point p).state = .returned ∨ (s.point p).state = .shelved) (e : Area) :
    (recount (s.point p).area (s.point p) (episode s p) e).unack.get (s.point p).priority =
        e.unack.get (s.point p).priority + (if (s.point p).state = .returned then 0 else 1) ∧
      (recount (s.point p).area (s.point p) (episode s p) e).shelved =
        e.shelved - (if (s.point p).state = .shelved then 1 else 0) ∧
      (recount (s.point p).area (s.point p) (episode s p) e).standing = e.standing := by
  have was (pr : Priority) : countsUnack (s.point p) (s.point p).area pr =
      ((s.point p).priority == pr && decide ((s.point p).state = .returned)) := by
    rw [countsUnack, Point.unacknowledged, configured]
    rcases state with state | state | state <;> simp [state]
  have now (pr : Priority) : countsUnack (episode s p) (s.point p).area pr = ((s.point p).priority == pr) := by
    rw [countsUnack, episode, Point.startEpisode, configured]
    simp [Point.unacknowledged]
  have shelved : countsShelved (s.point p) (s.point p).area = decide ((s.point p).state = .shelved) := by
    rw [countsShelved, configured]
    rcases state with state | state | state <;> simp [state]
  have shelves : countsShelved (episode s p) (s.point p).area = false := by
    rw [countsShelved, episode, Point.startEpisode]
    simp
  have stood : countsStanding (s.point p) (s.point p).area = false := by
    rw [countsStanding]
    rcases state with state | state | state <;> simp [state]
  have stands : countsStanding (episode s p) (s.point p).area = false := by
    rw [countsStanding, episode, Point.startEpisode]
    simp
  refine ⟨?_, ?_, ?_⟩
  · simp only [recount, was, now]
    by_cases returned : (s.point p).state = .returned <;> simp only [returned] <;> cases (s.point p).priority <;> rfl
  · simp only [recount, shelved, shelves]
    by_cases shelf : (s.point p).state = .shelved <;> simp [shelf, bump]
  · simp only [recount, stood, stands, bump_same]

/-! ## The steps of a raise (R31) -/

/-- R31: after the flood step. -/
def raiseLoaded (s : State) (p : PointNo) : State :=
  floodRaise offer (startRaise s p) (s.point p).area (s.point p).priority

/-- R73: whether a raise is quiet, judged after the flood step. -/
def raiseQuiet (s : State) (p : PointNo) : Bool := quietNow (raiseLoaded s p) (s.point p).area (s.point p).priority

/-- R31: after the quiet mark and the first-out unit. -/
def raiseMarked (s : State) (p : PointNo) : State :=
  firstOutRaise offer (markQuiet (raiseLoaded s p) p (raiseQuiet s p)) p

/-- R31: after all but its own record. -/
def raiseAnnounced (s : State) (p : PointNo) : State :=
  announceRaise (clearItem0 (raiseMarked s p) (s.point p).area) (s.point p).area (s.point p).priority (raiseQuiet s p)

theorem raisePoint_steps (s : State) (p : PointNo) :
    raisePoint offer s p = offer (raiseAnnounced s p) (raiseRecord (raiseAnnounced s p) p) := by
  unfold raisePoint raiseAnnounced raiseMarked raiseQuiet raiseLoaded
  dsimp only

theorem raiseLoaded_seq (s : State) (p : PointNo) : Sequenced s (raiseLoaded s p) :=
  (startRaise_seq s p).trans (floodRaise_seq offer_seq ..)

theorem raiseAnnounced_seq (s : State) (p : PointNo) : Sequenced s (raiseAnnounced s p) :=
  ((((raiseLoaded_seq s p).trans (markQuiet_seq ..)).trans (firstOutRaise_seq offer_seq ..)).trans
    (clearItem0_seq ..)).trans (announceRaise_seq ..)

theorem raiseAnnounced_eq (s : State) (p : PointNo) : raiseAnnounced s p =
    { raiseMarked s p with
      records := (raiseAnnounced s p).records, ports := (raiseAnnounced s p).ports
      horns := (raiseAnnounced s p).horns } := by
  unfold raiseAnnounced
  rw [announceRaise_eq]
  dsimp only
  rw [clearItem0_eq]

/-- R72: whether the raise of a point begins a flood. -/
abbrev raiseFloods (s : State) (p : PointNo) : Prop := floodsAt s (s.point p).area (s.point p).priority

theorem loadedArea_startRaise (s : State) (p : PointNo) :
    (floodsAt (startRaise s p) (s.point p).area (s.point p).priority ↔ raiseFloods s p) ∧
    loadedArea (startRaise s p) (s.point p).area (s.point p).priority =
      { recount (s.point p).area (s.point p) (episode s p) (s.area (s.point p).area) with
        load := raisedLoad s (s.point p).area (s.point p).priority
        flood := if raiseFloods s p then .flood else (s.area (s.point p).area).flood } := by
  have weights : (startRaise s p).weights = s.weights := by rw [startRaise_eq]
  unfold loadedArea raiseFloods floodsAt raisedLoad
  rw [area_startRaise, weights]
  exact ⟨Iff.rfl, rfl⟩

/-- R98: ITEMS asks for item 0 where it is watched and was confirmed. -/
theorem toldOfChange_item0 {watch : ItemSet} {h : HoRecord} : toldOfChange .items watch h h.unconfirmed0 = true ↔
    watch.getLsbD 0 = true ∧ h.confirmed.getLsbD 0 = true := by
  rw [toldOfChange_items]
  constructor
  · rintro ⟨k, watched, differ⟩
    have left : h.confirmed.getLsbD k ≠ (h.confirmed &&& ~~~1#16).getLsbD k := differ.resolve_left fun n => n rfl
    have bits : (h.confirmed &&& ~~~1#16).getLsbD k = (h.confirmed.getLsbD k && (decide (k < 16) && !decide (k = 0))) := by
      rw [BitVec.getLsbD_and, BitVec.getLsbD_not, BitVec.getLsbD_one]
      simp
    rw [bits] at left
    by_cases first : k = 0
    · subst first
      exact ⟨watched, by simpa using left⟩
    · by_cases high : k < 16
      · exact absurd (by rw [decide_eq_true high, decide_eq_false first, Bool.not_false, Bool.and_true, Bool.and_true]) left
      · exact absurd (by rw [BitVec.getLsbD_of_ge _ _ (Nat.le_of_not_lt high), Bool.false_and]) left
  · rintro ⟨watched, confirmed⟩
    refine ⟨0, watched, .inr ?_⟩
    rw [confirmed]
    simp [HoRecord.unconfirmed0]

/-- R169: the bits of a flag set with a flag set. -/
theorem getLsbD_raised {f : EventFlag} {n : Nat} (bit : f.bit = 1#9 <<< n) (place : n < 9) (x : Port) (k : Nat) :
    (x.raised f).flags.getLsbD k = true ↔ x.flags.getLsbD k = true ∨ k = n := by
  have one : (1#9 <<< n).getLsbD k = true ↔ k = n := by
    simp only [BitVec.getLsbD_shiftLeft, BitVec.getLsbD_one, Bool.and_eq_true, decide_eq_true_eq,
      Bool.not_eq_true', decide_eq_false_iff_not]
    omega
  unfold Port.raised
  dsimp only
  rw [BitVec.getLsbD_or, Bool.or_eq_true, bit, one]

theorem record_startRaise (s : State) (p : PointNo) (n : RecordNo) : (startRaise s p).record n = s.record n := by
  rw [startRaise_eq]
  rfl

theorem areaRecord_startRaise (s : State) (p : PointNo) (b : AreaNo) :
    ((startRaise s p).area b).record = (s.area b).record := by
  rw [area_startRaise]
  rfl

theorem record_announceRaise (s : State) (a : AreaNo) (pr : Priority) (quiet : Bool) (n : RecordNo) :
    (announceRaise s a pr quiet).record n = s.record n := by
  rw [announceRaise_eq]
  rfl

/-- What a record in the journal leaves. -/
theorem record_withJournal (s : State) (j : Journal) (n : RecordNo) : State.record { s with journal := j } n = s.record n :=
  rfl

theorem port_withJournal (s : State) (j : Journal) (d : Console) : State.port { s with journal := j } d = s.port d := rfl

theorem horn_withJournal (s : State) (j : Journal) (d : Console) : State.horn { s with journal := j } d = s.horn d := rfl

variable (calm : s.calm 3)
include calm

theorem startRaise_calm (p : PointNo) : (startRaise s p).calm 1 := by
  have journal : (startRaise s p).journal = s.journal := by rw [startRaise_eq]
  obtain ⟨clear, quiet, places⟩ := calm
  exact ⟨journal ▸ clear, journal ▸ quiet, by rw [journal]; omega⟩

theorem raiseLoaded_eq (p : PointNo) : raiseLoaded s p =
    { s with
      points := s.points.set p (episode s p)
      areas := (startRaise s p).areas.set (s.point p).area (loadedArea (startRaise s p) (s.point p).area (s.point p).priority)
      horns := (startRaise s p).horns, serialNext := nextSerial s.serialNext
      journal := (raiseLoaded s p).journal, ports := (raiseLoaded s p).ports, records := (raiseLoaded s p).records } := by
  refine (floodRaise_eq (startRaise_calm calm p) ..).trans ?_
  unfold raiseLoaded
  generalize floodRaise offer (startRaise s p) (s.point p).area (s.point p).priority = u
  rw [startRaise_eq s p]
  rfl

theorem raiseLoaded_takes (p : PointNo) : Takes s (raiseLoaded s p)
    (if floodsAt (startRaise s p) (s.point p).area (s.point p).priority
      then [floodOnRecord (startRaise s p) (s.point p).area (s.point p).priority] else []) := by
  have took := floodRaise_takes (startRaise_calm calm p) (s.point p).area (s.point p).priority
  have none' : Takes s (startRaise s p) [] := .none (by rw [startRaise_eq])
  exact none'.then took

theorem raiseLoaded_calm (p : PointNo) : (raiseLoaded s p).calm 2 :=
  (raiseLoaded_takes calm p).calm (by split <;> simp) calm

theorem point_raiseLoaded (p x : PointNo) : (raiseLoaded s p).point x = if p = x then episode s p else s.point x := by
  rw [raiseLoaded_eq calm]
  exact State.point_putPoint ..

theorem area_raiseLoaded (p : PointNo) (b : AreaNo) : (raiseLoaded s p).area b = if (s.point p).area = b
    then loadedArea (startRaise s p) (s.point p).area (s.point p).priority else (startRaise s p).area b := by
  rw [raiseLoaded_eq calm]
  exact State.area_setArea ..

theorem markQuiet_calm (p : PointNo) : (markQuiet (raiseLoaded s p) p (raiseQuiet s p)).calm 1 :=
  (Takes.none rfl).calm (by decide) (raiseLoaded_calm calm p)

theorem point_markQuiet (p : PointNo) : (markQuiet (raiseLoaded s p) p (raiseQuiet s p)).point p =
    { episode s p with quiet := raiseQuiet s p } := by
  refine (State.point_putPoint ..).trans ?_
  rw [if_pos rfl, point_raiseLoaded calm, if_pos rfl]

theorem groups_markQuiet (p : PointNo) : (markQuiet (raiseLoaded s p) p (raiseQuiet s p)).groups = s.groups := by
  rw [markQuiet, raiseLoaded_eq calm]
  rfl

/-- R30, R51, R52, R73: the point as its raise leaves it. -/
theorem raiseMarked_eq (p : PointNo) : raiseMarked s p =
    { raiseLoaded s p with
      points := s.points.set p { episode s p with quiet := raiseQuiet s p, firstMark := markAt s (s.point p) }
      groups := (raiseMarked s p).groups, journal := (raiseMarked s p).journal } := by
  have mark : markAt (markQuiet (raiseLoaded s p) p (raiseQuiet s p)) { episode s p with quiet := raiseQuiet s p } =
      markAt s (s.point p) := by
    unfold markAt
    rw [groups_markQuiet calm]
    rfl
  have points : (markQuiet (raiseLoaded s p) p (raiseQuiet s p)).points.set p
      { episode s p with quiet := raiseQuiet s p, firstMark := markAt s (s.point p) } =
        s.points.set p { episode s p with quiet := raiseQuiet s p, firstMark := markAt s (s.point p) } := by
    rw [markQuiet, raiseLoaded_eq calm]
    simp [State.putPoint]
  refine (firstOutRaise_eq (markQuiet_calm calm p) p).trans ?_
  rw [point_markQuiet calm, mark, State.putPoint, points]
  rfl

theorem tripsGroup_markQuiet (p : PointNo) (g : GroupNo) :
    tripsGroup (markQuiet (raiseLoaded s p) p (raiseQuiet s p))
      ((markQuiet (raiseLoaded s p) p (raiseQuiet s p)).point p) g ↔ tripsGroup s (s.point p) g := by
  unfold tripsGroup
  rw [point_markQuiet calm, groups_markQuiet calm]
  rfl

theorem groups_raiseMarked (p : PointNo) (g : GroupNo) : (raiseMarked s p).groups[g] =
    if tripsGroup s (s.point p) g then .tripped p else s.groups[g] := by
  refine (firstOutRaise_groups (markQuiet_calm calm p) p g).trans ?_
  refine if_congr (tripsGroup_markQuiet calm p g) rfl ?_
  rw [groups_markQuiet calm]

theorem raiseMarked_takes (p : PointNo) : ∃ l, Takes (raiseLoaded s p) (raiseMarked s p) l ∧
    (∀ g, tripsGroup s (s.point p) g → l = [areaRecord s .firstOut .accountable (g.val + 1) (s.point p).area 0#6
      (BitVec.ofNat 16 p ++ BitVec.ofNat 8 (s.point p).area ++ 0#8)]) ∧
    ((¬ ∃ g, tripsGroup s (s.point p) g) → l = []) := by
  obtain ⟨l, took, trips, rests⟩ := firstOutRaise_takes (markQuiet_calm calm p) p
  simp only [tripsGroup_markQuiet calm] at trips rests
  have none' : Takes (raiseLoaded s p) (markQuiet (raiseLoaded s p) p (raiseQuiet s p)) [] := .none rfl
  refine ⟨l, none'.then took, fun g h => ?_, rests⟩
  have area : (episode s p).area = (s.point p).area := rfl
  rw [trips g h, firstOutRecord, point_markQuiet calm, areaRecord_kept ((raiseLoaded_seq s p).trans (markQuiet_seq ..)).toKept]
  rfl

theorem raiseMarked_calm (p : PointNo) : (raiseMarked s p).calm 1 := by
  obtain ⟨l, took, trips, rests⟩ := raiseMarked_takes calm p
  refine took.calm ?_ (raiseLoaded_calm calm p)
  by_cases tripped : ∃ g, tripsGroup s (s.point p) g
  · obtain ⟨g, h⟩ := tripped
    rw [trips g h]
    exact Nat.le_refl 2
  · rw [rests tripped]
    decide

theorem point_raiseAnnounced (p x : PointNo) : (raiseAnnounced s p).point x = if p = x
    then { episode s p with quiet := raiseQuiet s p, firstMark := markAt s (s.point p) } else s.point x := by
  rw [raiseAnnounced_eq, raiseMarked_eq calm]
  exact State.point_putPoint ..

/-- R31: the whole raise but for its own record. -/
theorem raisePoint_eq (p : PointNo) : raisePoint offer s p =
    { raiseAnnounced s p with
      journal := (raiseMarked s p).journal.accept (raiseRecord (raiseAnnounced s p) p) } := by
  have journal : (raiseAnnounced s p).journal = (raiseMarked s p).journal := by rw [raiseAnnounced_eq]
  have calm' : (raiseAnnounced s p).calm (0 + 1) := by
    rw [State.calm, journal]
    exact raiseMarked_calm calm p
  rw [raisePoint_steps, offer_calm calm', journal]

theorem area_raisePoint (p : PointNo) (b : AreaNo) : (raisePoint offer s p).area b = if (s.point p).area = b
    then loadedArea (startRaise s p) (s.point p).area (s.point p).priority else (startRaise s p).area b := by
  rw [raisePoint_eq calm, raiseAnnounced_eq, raiseMarked_eq calm, ← area_raiseLoaded calm]
  rfl

/-- R79, R97: the records once the flood step has judged the hold. -/
theorem record_raiseMarked (p : PointNo) (n : RecordNo) : (raiseMarked s p).record n = (raiseLoaded s p).record n := by
  rw [raiseMarked_eq calm]
  rfl

theorem record_raiseLoaded_held (p : PointNo) (floods : raiseFloods s p) {n : RecordNo}
    (named : (s.area (s.point p).area).record = some n) (reviewing : (s.record n).phase = .reviewing) :
    (raiseLoaded s p).record n = { s.record n with
      held := decide (∃ b : AreaNo, (s.record n).areas.getLsbD b = true ∧
        ((raisePoint offer s p).area b).flood = .flood) } := by
  have area (b : AreaNo) : (raisePoint offer s p).area b = (raiseLoaded s p).area b := by
    rw [area_raisePoint calm, area_raiseLoaded calm]
  have held := record_floodRaise_held (startRaise_calm calm p) ((loadedArea_startRaise s p).1.mpr floods)
    (by rw [areaRecord_startRaise]; exact named) (by rw [record_startRaise]; exact reviewing)
  simp only [area]
  rw [record_startRaise] at held
  exact held

theorem record_raiseLoaded_other (p : PointNo) {n : RecordNo}
    (other : ¬ raiseFloods s p ∨ (s.area (s.point p).area).record ≠ some n ∨ (s.record n).phase ≠ .reviewing) :
    (raiseLoaded s p).record n = s.record n := by
  rw [← record_startRaise s p n]
  refine record_floodRaise_other (startRaise_calm calm p) ?_
  rwa [(loadedArea_startRaise s p).1, areaRecord_startRaise, record_startRaise]

/-- R79: but for its hold, a record is as the raise found it until item 0 is cleared. -/
theorem record_raiseMarked_core (p : PointNo) (n : RecordNo) :
    ∃ held, (raiseMarked s p).record n = { s.record n with held := held } := by
  rw [record_raiseMarked calm]
  by_cases judged : raiseFloods s p ∧ (s.area (s.point p).area).record = some n ∧ (s.record n).phase = .reviewing
  · obtain ⟨floods, named, reviewing⟩ := judged
    exact ⟨_, record_raiseLoaded_held calm p floods named reviewing⟩
  · refine ⟨(s.record n).held, record_raiseLoaded_other calm p ?_⟩
    by_contra all
    push Not at all
    exact judged all

theorem record_raisePoint (p : PointNo) (n : RecordNo) : (raisePoint offer s p).record n =
    if (s.area (s.point p).area).record = some n ∧ (s.record n).phase ≠ .free
      then ((raiseLoaded s p).record n).unconfirmed0 else (raiseLoaded s p).record n := by
  have area : ((raiseMarked s p).area (s.point p).area).record = (s.area (s.point p).area).record :=
    (((raiseLoaded_seq s p).trans (markQuiet_seq ..)).trans (firstOutRaise_seq offer_seq ..)).record _
  have announced : (raiseAnnounced s p).record n = (clearItem0 (raiseMarked s p) (s.point p).area).record n := by
    rw [raiseAnnounced, record_announceRaise]
  obtain ⟨held, core⟩ := record_raiseMarked_core calm p n
  have phase : ((raiseMarked s p).record n).phase = (s.record n).phase := by rw [core]
  have final : (raisePoint offer s p).record n = (raiseAnnounced s p).record n := by
    rw [raisePoint_eq calm, record_withJournal]
  rw [final, announced, record_clearItem0, area, phase, record_raiseMarked calm]

/-- R98: who is told that the raise clears item 0. -/
def raiseTells (s : State) (p : PointNo) (d : Console) : Prop := ∃ n, (s.area (s.point p).area).record = some n ∧
  checklistTells (s.record n) (s.record n).unconfirmed0 d

theorem itemTells_raiseMarked (p : PointNo) (d : Console) :
    itemTells (raiseMarked s p) (s.point p).area d ↔ raiseTells s p d := by
  have area : ((raiseMarked s p).area (s.point p).area).record = (s.area (s.point p).area).record :=
    (((raiseLoaded_seq s p).trans (markQuiet_seq ..)).trans (firstOutRaise_seq offer_seq ..)).record _
  unfold itemTells raiseTells
  rw [area]
  refine exists_congr fun n => and_congr_right' ?_
  obtain ⟨held, core⟩ := record_raiseMarked_core calm p n
  rw [core]
  exact Iff.rfl

/-- R31, R72, R98: the flags of a raise. -/
theorem flags_raisePoint (p : PointNo) (d : Console) (k : Nat) :
    ((raisePoint offer s p).port d).flags.getLsbD k = true ↔ (s.port d).flags.getLsbD k = true ∨
      (k = 5 ∧ raiseFloods s p ∧ (s.horn d).scope.getLsbD (s.point p).area = true) ∨ (k = 3 ∧ raiseTells s p d) ∨
      (k = 0 ∧ raiseQuiet s p = false ∧ (s.horn d).scope.getLsbD (s.point p).area = true) := by
  have final : (raisePoint offer s p).port d = (raiseAnnounced s p).port d := by
    rw [raisePoint_eq calm, port_withJournal]
  have marked : (raiseMarked s p).port d = (raiseLoaded s p).port d := by
    rw [raiseMarked_eq calm]
    rfl
  have first : (startRaise s p).port d = s.port d := by
    rw [startRaise_eq]
    rfl
  have atClear : ((clearItem0 (raiseMarked s p) (s.point p).area).horn d).scope = (s.horn d).scope :=
    ((((raiseLoaded_seq s p).trans (markQuiet_seq ..)).trans (firstOutRaise_seq offer_seq ..)).trans
      (clearItem0_seq ..)).scope d
  have atStart : ((startRaise s p).horn d).scope = (s.horn d).scope := (startRaise_seq s p).scope d
  have flood : ((raiseLoaded s p).port d).flags.getLsbD k = true ↔ (s.port d).flags.getLsbD k = true ∨
      (k = 5 ∧ raiseFloods s p ∧ (s.horn d).scope.getLsbD (s.point p).area = true) := by
    have port : (raiseLoaded s p).port d =
        if raiseFloods s p ∧ (s.horn d).scope.getLsbD (s.point p).area = true then (s.port d).raised .flood
          else s.port d := by
      refine (port_floodRaise (startRaise_calm calm p) ..).trans (if_congr ?_ (by rw [first]) first)
      rw [atStart, (loadedArea_startRaise s p).1]
    rw [port]
    split
    · next held => rw [getLsbD_raised rfl (by decide), and_iff_left held]
    · next none' => exact (or_iff_left fun h => none' h.2).symm
  have item : ((clearItem0 (raiseMarked s p) (s.point p).area).port d).flags.getLsbD k = true ↔
      ((raiseLoaded s p).port d).flags.getLsbD k = true ∨ (k = 3 ∧ raiseTells s p d) := by
    obtain ⟨told, untold⟩ := port_clearItem0 (raiseMarked s p) (s.point p).area d
    rw [itemTells_raiseMarked calm] at told untold
    by_cases tells : raiseTells s p d
    · rw [told tells, getLsbD_raised rfl (by decide), and_iff_left tells, marked]
    · rw [untold tells, marked, or_iff_left fun h => tells h.2]
  rw [final, raiseAnnounced, port_announceRaise, atClear]
  split
  · next held => rw [getLsbD_raised rfl (by decide), and_iff_left held, item, flood, or_assoc, or_assoc]
  · next none' => rw [item, flood, or_assoc, or_iff_left (b := k = 0 ∧ _) fun h => none' h.2]

theorem horn_raisePoint (p : PointNo) (d : Console) : (raisePoint offer s p).horn d = { s.horn d with
    silenced := (s.horn d).silenced.filter (· ≠ p)
    chirp := if raiseQuiet s p = false ∧ (s.point p).priority = .p4 ∧ (s.horn d).scope.getLsbD (s.point p).area = true
      then some (s.time.runClock + 500#32) else (s.horn d).chirp } := by
  have final : (raisePoint offer s p).horn d = (raiseAnnounced s p).horn d := by
    rw [raisePoint_eq calm, horn_withJournal]
  have cleared : (clearItem0 (raiseMarked s p) (s.point p).area).horn d =
      { s.horn d with silenced := (s.horn d).silenced.filter (· ≠ p) } := by
    rw [clearItem0_eq, ← horn_startRaise, raiseMarked_eq calm, raiseLoaded_eq calm]
    rfl
  have time : (clearItem0 (raiseMarked s p) (s.point p).area).time = s.time := by
    rw [clearItem0_eq, raiseMarked_eq calm, raiseLoaded_eq calm]
  rw [final, raiseAnnounced, horn_announceRaise, cleared, time]

/-- R73: the quiet mark. -/
theorem raiseQuiet_eq (p : PointNo) : raiseQuiet s p =
    decide (((s.area (s.point p).area).flood = .flood ∨ raiseFloods s p) ∧
      ((s.point p).priority = .p3 ∨ (s.point p).priority = .p4)) := by
  unfold raiseQuiet quietNow
  rw [area_raiseLoaded calm, if_pos rfl, (loadedArea_startRaise s p).2, Bool.eq_iff_iff, decide_eq_true_eq,
    Bool.and_eq_true, Bool.or_eq_true, beq_iff_eq, beq_iff_eq, beq_iff_eq]
  refine and_congr_left' ?_
  dsimp only
  split
  · next floods => exact iff_of_true rfl (.inr floods)
  · next none' => exact (or_iff_left none').symm

omit calm in
theorem floodOnRecord_startRaise (s : State) (p : PointNo) :
    floodOnRecord (startRaise s p) (s.point p).area (s.point p).priority =
      floodOnRecord s (s.point p).area (s.point p).priority := by
  have weights : (startRaise s p).weights = s.weights := by rw [startRaise_eq]
  rw [floodOnRecord, areaRecord_kept (startRaise_seq s p).toKept, raisedLoad, area_startRaise, weights]
  rfl

/-- 10.4: the mark bits of a RAISE record. -/
def markBits (m : Option FirstMark) : BitVec 2 :=
  match m with
  | none => 0#2
  | some .first => 1#2
  | some .follower => 2#2

omit calm in
theorem raiseRecord_eq {u : State} (k : Kept s u) {q : Point} (point : u.point p = q) : raiseRecord u p =
    areaRecord s .raise (if q.priority = .p1 then .accountable else .routine) p q.area
      (BitVec.ofBool q.quiet ++ markBits q.firstMark ++ BitVec.ofNat 3 q.priority.number)
      (BitVec.ofNat 8 q.area ++ BitVec.ofNat 24 (q.serial.getD 0)) := by
  rw [raiseRecord, point, areaRecord_kept k]
  rfl

theorem point_raisePoint (p x : PointNo) : (raisePoint offer s p).point x = if p = x
    then { episode s p with quiet := raiseQuiet s p, firstMark := markAt s (s.point p) } else s.point x := by
  rw [← point_raiseAnnounced calm, raisePoint_eq calm, State.point, State.point]

theorem serialNext_raisePoint (p : PointNo) : (raisePoint offer s p).serialNext = nextSerial s.serialNext := by
  rw [raisePoint_eq calm, raiseAnnounced_eq, raiseMarked_eq calm, raiseLoaded_eq calm]

theorem groups_raisePoint (p : PointNo) (g : GroupNo) : (raisePoint offer s p).groups[g] =
    if tripsGroup s (s.point p) g then .tripped p else s.groups[g] := by
  rw [← groups_raiseMarked calm, raisePoint_eq calm, raiseAnnounced_eq]

/-- R31: the records of a raise, in order. -/
theorem fifo_raisePoint (p : PointNo) : ∃ l2,
    (∀ g, tripsGroup s (s.point p) g → l2 = [areaRecord s .firstOut .accountable (g.val + 1) (s.point p).area 0#6
      (BitVec.ofNat 16 p ++ BitVec.ofNat 8 (s.point p).area ++ 0#8)]) ∧
    ((¬ ∃ g, tripsGroup s (s.point p) g) → l2 = []) ∧
    (raisePoint offer s p).journal.fifo = s.journal.fifo ++
      (if raiseFloods s p then [floodOnRecord s (s.point p).area (s.point p).priority] else []) ++ l2 ++
      [raiseRecord (raiseAnnounced s p) p] := by
  obtain ⟨l2, took, trips, rests⟩ := raiseMarked_takes calm p
  have loaded := (raiseLoaded_takes calm p).fifo
  rw [floodOnRecord_startRaise, if_congr (loadedArea_startRaise s p).1 rfl rfl] at loaded
  refine ⟨l2, trips, rests, ?_⟩
  rw [raisePoint_eq calm]
  refine (accept_fifo ..).trans ?_
  rw [took.fifo, loaded]

end Sys2Proof.Machine

namespace Sys2Proof.Proofs

open Sys2Proof.Machine

/-- Settles O43. -/
theorem raiseHandsOn : Obligations.RaiseHandsOn := by
  intro s p q a e load floods quiet trips mark stamp markBits asks told t calm configured state
  have quiet_eq : raiseQuiet s p = quiet := raiseQuiet_eq calm p
  have tells (d : Console) : raiseTells s p d ↔ told d := by
    have asked (m : Notify) (watch : ItemSet) (h : HoRecord) :
        toldOfChange m watch h h.unconfirmed0 = true ↔ asks m watch h := by
      cases m
      · exact toldOfChange_word
      · exact toldOfChange_item0
    refine exists_congr fun n => and_congr_right' (and_congr_right' (or_congr ?_ ?_)) <;>
      exact and_congr_right' (asked ..)
  have point (x : PointNo) : t.point x = if p = x
      then { episode s p with quiet := quiet, firstMark := mark } else s.point x := by
    rw [← quiet_eq]
    exact point_raisePoint calm p x
  have area (b : AreaNo) : t.area b = if a = b then _ else _ := area_raisePoint calm p b
  obtain ⟨unack, shelved, standing⟩ := recount_episode configured state e
  have here : t.area a = { recount a q (episode s p) e with
      load := load, flood := if raiseFloods s p then .flood else e.flood } := by
    rw [area, if_pos rfl]
    exact (loadedArea_startRaise s p).2
  refine ⟨?_, fun x other => ?_, ?_, ?_, ?_, ?_, ?_, ?_, fun b other => ?_, fun g => ?_, fun n other => ?_,
    fun n named => ?_, fun d => ?_, ?_⟩
  · rw [point, if_pos rfl]
    rfl
  · rw [point, if_neg (Ne.symm other)]
  · exact serialNext_raisePoint calm p
  · rw [here]
  · rw [here]
    dsimp only
    split
    · next begins => exact iff_of_true rfl (.inr begins)
    · next rests => exact (or_iff_left rests).symm
  · rw [here]
    exact unack
  · rw [here]
    exact shelved
  · rw [here]
    exact standing
  · rw [area, if_neg (Ne.symm other), area_startRaise]
    exact recount_elsewhere (Ne.symm other) (by exact Ne.symm other) _
  · exact groups_raisePoint calm p g
  · simp only [t]
    rw [record_raisePoint calm, if_neg fun h => other h.1, record_raiseLoaded_other calm p (.inr (.inl other))]
  · obtain ⟨held, core⟩ := record_raiseMarked_core calm p n
    rw [record_raiseMarked calm] at core
    have final : t.record n = if (s.record n).phase ≠ .free then ((raiseLoaded s p).record n).unconfirmed0
        else (raiseLoaded s p).record n :=
      (record_raisePoint calm p n).trans (if_congr (and_iff_right named) rfl rfl)
    have keepsHold : (t.record n).held = ((raiseLoaded s p).record n).held := by
      rw [final]
      split <;> rfl
    refine ⟨?_, fun live => ?_, fun reviewing begins => ?_, fun still => ?_⟩
    · rw [final, core]
      split <;> rfl
    · rw [final, if_pos live, core]
      rfl
    · rw [keepsHold, record_raiseLoaded_held calm p begins named reviewing]
      exact decide_eq_true_iff
    · rw [keepsHold, record_raiseLoaded_other calm p (still.symm.imp id .inr)]
  · have flags (k : Nat) := flags_raisePoint calm p d k
    rw [quiet_eq, tells] at flags
    have horn := horn_raisePoint calm p d
    rw [quiet_eq] at horn
    have only3 {F C N : Prop} : ((3 = 5 ∧ F) ∨ (3 = 3 ∧ C) ∨ (3 = 0 ∧ N)) ↔ C := by simp
    have only0 {F C N : Prop} : ((0 = 5 ∧ F) ∨ (0 = 3 ∧ C) ∨ (0 = 0 ∧ N)) ↔ N := by simp
    have only5 {F C N : Prop} : ((5 = 5 ∧ F) ∨ (5 = 3 ∧ C) ∨ (5 = 0 ∧ N)) ↔ F := by simp
    refine ⟨?_, fun k no0 no3 no5 => ?_, ?_, ?_, ?_, ?_⟩
    · exact (flags 3).trans (or_congr_right only3)
    · rw [Bool.eq_iff_iff]
      refine (flags k).trans (or_iff_left ?_)
      simp [no0, no3, no5]
    · exact (flags 0).trans (or_congr_right only0)
    · exact (flags 5).trans (or_congr_right only5)
    · exact congrArg Horn.silenced horn
    · exact congrArg Horn.chirp horn
  · obtain ⟨l2, tripped, rests, fifo⟩ := fifo_raisePoint calm p
    refine ⟨if raiseFloods s p then [floodOnRecord s a q.priority] else [], l2, fun begins => ?_, fun still => ?_,
      fun g grouped ⟨g', h⟩ => ?_, fun none' => rests none', ?_⟩
    · exact (if_pos begins).trans rfl
    · exact if_neg still
    · rw [tripped g ⟨grouped, by rw [Option.some_inj.mp (grouped.symm.trans h.1)]; exact h.2⟩]
      rfl
    · refine fifo.trans ?_
      rw [raiseRecord_eq (raiseAnnounced_seq s p).toKept ((point_raiseAnnounced calm p p).trans (if_pos rfl)), quiet_eq]
      rfl

end Sys2Proof.Proofs
end

section
/-! The tests of the requests, spelled by their checks: R10, R167, R168, R174. -/

namespace Sys2Proof.Machine

variable {s : State} {c : Console}

/-! ## Lists of tests and checks -/

/-- The checks of a request are the tests of its rule, in the same order, and a refusal's record has at most one byte
(R168). -/
def SpelledBy (tests : List RequestTest) (l : List Check) : Prop :=
  List.Forall₂ (fun x k => ((x.failsWhen ↔ k.1 = true) ∧ k.2 = ⟨x.status, x.record⟩) ∧ x.record.length ≤ 1) tests l

theorem SpelledBy.spells {tests : List RequestTest} {l : List Check} (h : SpelledBy tests l) : Spells tests l :=
  h.imp fun _ _ both => both.1

theorem SpelledBy.brief {tests : List RequestTest} {l : List Check} (h : SpelledBy tests l) :
    ∀ x ∈ tests, x.record.length ≤ 1 := by
  induction h with
  | nil => exact nofun
  | cons head _ ih => exact List.forall_mem_cons.mpr ⟨head.2, ih⟩

theorem SpelledBy.nil : SpelledBy [] [] := List.Forall₂.nil

/-- A test whose refusal has no record, and a check with the same condition. -/
theorem SpelledBy.cons {failsWhen : Prop} {b : Bool} {st : Status} {tests : List RequestTest} {l : List Check}
    (same : failsWhen ↔ b = true) (rest : SpelledBy tests l) :
    SpelledBy ({ failsWhen := failsWhen, status := st } :: tests) (fails b st :: l) :=
  List.Forall₂.cons ⟨⟨same, rfl⟩, Nat.zero_le 1⟩ rest

theorem SpelledBy.append {tests tests' : List RequestTest} {l l' : List Check} (h : SpelledBy tests l) (h' : SpelledBy tests' l') :
    SpelledBy (tests ++ tests') (l ++ l') :=
  List.rel_append h h'

/-- One test alone. -/
theorem SpelledBy.one {failsWhen : Prop} {b : Bool} {st : Status} (same : failsWhen ↔ b = true) :
    SpelledBy [{ failsWhen := failsWhen, status := st }] [fails b st] :=
  .cons same .nil

/-- R168: a test whose refusal is NOT_READY with its reason. -/
theorem SpelledBy.reason {failsWhen : Prop} {b : Bool} {x : Byte} {tests : List RequestTest} {l : List Check}
    (same : failsWhen ↔ b = true) (rest : SpelledBy tests l) :
    SpelledBy ({ failsWhen := failsWhen, status := .notReady, record := [x] } :: tests) (notReady b x :: l) :=
  List.Forall₂.cons ⟨⟨same, rfl⟩, Nat.le_refl 1⟩ rest

/-! ## The tests that many requests share -/

theorem spells_service (s : State) {tests : List RequestTest} {l : List Check} (rest : SpelledBy tests l) :
    SpelledBy (serviceTest s :: tests) (needService s :: l) :=
  .cons (by rw [State.configuring, beq_iff_eq]) rest

theorem nobodyAt_iff : s.operatorAt c = none ↔ s.nobodyAt c = true := Option.isNone_iff_eq_none.symm

theorem traineeAt_iff : (∃ op, s.operatorAt c = some op ∧ op.role = .trainee) ↔ s.traineeAt c = true := by
  rw [State.traineeAt, Option.any_eq_true]
  simp only [beq_iff_eq]

theorem supervisorAt_iff : s.supervisorAt c = true ↔ ∃ op, s.operatorAt c = some op ∧ op.role = .supervisor := by
  rw [State.supervisorAt, Option.any_eq_true]
  simp only [beq_iff_eq]

theorem no_supervisorAt_iff : (∀ op, s.operatorAt c = some op → op.role ≠ .supervisor) ↔ (!s.supervisorAt c) = true := by
  rw [Bool.not_eq_true', ← Bool.not_eq_true, supervisorAt_iff]
  push Not
  rfl

theorem spells_operator (s : State) (c : Console) : SpelledBy (operatorTests s c) (needOperator s c) :=
  .cons nobodyAt_iff (.one traineeAt_iff)

theorem spells_supervisor (s : State) (c : Console) : SpelledBy (supervisorTests s c) (needSupervisor s c) :=
  .cons bne_iff_ne.symm (.cons nobodyAt_iff (.one no_supervisorAt_iff))

theorem spells_write (s : State) (c : Console) {operands : List RequestTest} {l : List Check} (rest : SpelledBy operands l) :
    SpelledBy (writeTests s c operands) (cfgChecks s c ++ l) :=
  .cons (by rw [State.inService, beq_iff_eq]) (.cons bne_iff_ne.symm rest)

/-! ## A request ruled by its tests -/

/-- R167: a request is answered with its first failing test, and with OK or END where none fails. -/
def RuledBy (tests : List RequestTest) (s : State) (out : State × Reply) : Prop :=
  ∃ l k, out = decided s l k ∧ (k.2.status = .ok ∨ k.2.status = .endOfList) ∧ SpelledBy tests l

theorem RuledBy.taken {tests : List RequestTest} {l : List Check} {t : State} {record : List Byte} (h : SpelledBy tests l) :
    RuledBy tests s (decided s l (taken t record)) :=
  ⟨l, _, rfl, .inl rfl, h⟩

/-- A request without tests. -/
theorem RuledBy.free {t : State} {record : List Byte} : RuledBy [] s (Machine.taken t record) :=
  ⟨[], _, rfl, .inl rfl, .nil⟩

/-! ## Ports, readers, and requests with one test or two -/

variable (s) (c) (r : Request)

theorem ruled_readFlags : RuledBy (requestTests s c 0x03#8 r) s (readFlags c r s) := .free

theorem ruled_clearFlags : RuledBy (requestTests s c 0x04#8 r) s (clearFlags c r s) := .taken (spells_service s .nil)

theorem ruled_setMask : RuledBy (requestTests s c 0x05#8 r) s (setMask c r s) := .taken (spells_service s .nil)

theorem ruled_readConditions : RuledBy (requestTests s c 0x06#8 r) s (readConditions c r s) := .free

theorem ruled_signOff : RuledBy (requestTests s c 0x11#8 r) s (signOff c r s) := by
  unfold signOff
  split
  · split
    · exact .free
    · exact .free
  · exact .free

theorem ruled_readSignon : RuledBy (requestTests s c 0x12#8 r) s (readSignon c r s) :=
  .taken (.one decide_eq_true_iff.symm)

theorem ruled_readOperator : RuledBy (requestTests s c 0x13#8 r) s (readOperator c r s) :=
  .taken (.one decide_eq_true_iff.symm)

theorem ruled_silence : RuledBy (requestTests s c 0x23#8 r) s (silence c r s) := .taken (spells_service s .nil)

/-- R42: a scope code past the three, or an area past the 24. -/
theorem scopeOf_isNone {code area : Nat} : (2 < code ∨ (code = 2 ∧ 23 < area)) ↔ (scopeOf code area).isNone = true := by
  match code with
  | 0 => simp [scopeOf]
  | 1 => simp [scopeOf]
  | 2 =>
    by_cases named : area < 24
    · simp [scopeOf, named]
      omega
    · simp [scopeOf, named]
      omega
  | n + 3 =>
    refine iff_of_true (.inl ?_) rfl
    omega

theorem ruled_listOpen : RuledBy (requestTests s c 0x24#8 r) s (listOpen c r s) :=
  .taken (spells_service s (.one scopeOf_isNone))

theorem ruled_listNext : RuledBy (requestTests s c 0x25#8 r) s (listNext c r s) := by
  refine ⟨_, takeNext s c, rfl, ?_, spells_service s (.one beq_iff_eq.symm)⟩
  unfold takeNext
  dsimp only
  split
  · exact .inr rfl
  · exact .inl rfl

theorem or_decides {p q : Prop} [Decidable p] [Decidable q] : (p ∨ q) ↔ (decide p || decide q) = true := by
  rw [Bool.or_eq_true, decide_eq_true_iff, decide_eq_true_iff]

theorem zero_or_decides {n : Nat} {q : Prop} [Decidable q] : (n = 0 ∨ q) ↔ (n == 0 || decide q) = true := by
  rw [Bool.or_eq_true, decide_eq_true_iff, beq_iff_eq]

theorem ruled_readPoint : RuledBy (requestTests s c 0x26#8 r) s (readPoint c r s) := .taken (.one or_decides)

theorem ruled_readArea : RuledBy (requestTests s c 0x27#8 r) s (readArea c r s) := .taken (.one or_decides)

theorem ruled_readHorn : RuledBy (requestTests s c 0x28#8 r) s (readHorn c r s) :=
  .taken (.one decide_eq_true_iff.symm)

theorem ruled_lampTest : RuledBy (requestTests s c 0x29#8 r) s (lampTest c r s) := .taken (spells_service s .nil)

theorem ruled_readShelf : RuledBy (requestTests s c 0x32#8 r) s (readShelf c r s) := by
  refine ⟨_, _, rfl, ?_, .one decide_eq_true_iff.symm⟩
  split
  · exact .inr rfl
  · exact .inl rfl

theorem ruled_readGroup : RuledBy (requestTests s c 0x34#8 r) s (readGroup c r s) := .taken (.one zero_or_decides)

theorem ruled_readFlood : RuledBy (requestTests s c 0x35#8 r) s (readFlood c r s) :=
  .taken (.one decide_eq_true_iff.symm)

theorem ruled_hoRead : RuledBy (requestTests s c 0x4A#8 r) s (hoRead c r s) := .taken (.one or_decides)

theorem ruled_readJournal : RuledBy (requestTests s c 0x55#8 r) s (readJournal c r s) :=
  .taken (.one decide_eq_true_iff.symm)

theorem ruled_readLinkCounts : RuledBy (requestTests s c 0x56#8 r) s (readLinkCounts c r s) :=
  .taken (.one decide_eq_true_iff.symm)

/-! ## The supervisor's requests, the journal's, and those of the device state -/

theorem ruled_setTime : RuledBy (requestTests s c 0x50#8 r) s (setTime c r s) :=
  .taken (spells_service s (spells_supervisor s c))

theorem ruled_journalStart : RuledBy (requestTests s c 0x51#8 r) s (journalStart c r s) :=
  .taken (spells_service s (.one bne_iff_ne.symm))

theorem ruled_journalStop : RuledBy (requestTests s c 0x52#8 r) s (journalStop c r s) :=
  .taken (spells_service s (spells_supervisor s c))

theorem ruled_journalClear : RuledBy (requestTests s c 0x53#8 r) s (journalClear c r s) :=
  .taken (spells_service s (spells_supervisor s c))

theorem ruled_journalReset : RuledBy (requestTests s c 0x54#8 r) s (journalReset c r s) :=
  .taken (spells_service s (spells_supervisor s c))

theorem ruled_restart : RuledBy (requestTests s c 0x69#8 r) s (restart c r s) :=
  .taken (spells_service s (spells_supervisor s c))

theorem ruled_reconfigure : RuledBy (requestTests s c 0x6A#8 r) s (reconfigure c r s) :=
  .taken (spells_service s (spells_supervisor s c))

theorem ruled_commitConfig : RuledBy (requestTests s c 0x68#8 r) s (commitConfig c r s) :=
  .taken (spells_write s c .nil)

end Sys2Proof.Machine
end

section
/-! The tests of the configuration writes: R1, R9, R24, R68, R139, R174 to R176. -/

namespace Sys2Proof.Machine

/-! ## Enumerated operands (R173) -/

theorem priorityOf_isNone {n : Nat} : (n = 0 ∨ 4 < n) ↔ (priorityOf n).isNone = true := by
  match n with
  | 0 => simp [priorityOf]
  | 1 => simp [priorityOf]
  | 2 => simp [priorityOf]
  | 3 => simp [priorityOf]
  | 4 => simp [priorityOf]
  | n + 5 =>
    refine iff_of_true (.inr ?_) rfl
    omega

theorem roleOf_isNone {n : Nat} : 2 < n ↔ (roleOf n).isNone = true := by
  match n with
  | 0 => simp [roleOf]
  | 1 => simp [roleOf]
  | 2 => simp [roleOf]
  | n + 3 =>
    refine iff_of_true ?_ rfl
    omega

theorem roleOf_supervisor {n : Nat} : roleOf n = some .supervisor ↔ n = 2 := by
  match n with
  | 0 => simp [roleOf]
  | 1 => simp [roleOf]
  | 2 => simp [roleOf]
  | n + 3 =>
    refine iff_of_false ?_ ?_
    · exact nofun
    · omega

theorem jointAckOf_isNone {n : Nat} : 1 < n ↔ (jointAckOf n).isNone = true := by
  match n with
  | 0 => simp [jointAckOf]
  | 1 => simp [jointAckOf]
  | n + 2 =>
    refine iff_of_true ?_ rfl
    omega

theorem patternKindOf_isSome {n : Nat} : n ≤ 1 ↔ (patternKindOf n).isSome = true := by
  match n with
  | 0 => simp [patternKindOf]
  | 1 => simp [patternKindOf]
  | n + 2 =>
    refine iff_of_false ?_ Bool.false_ne_true
    omega

/-! ## The writes -/

variable (s : State) (c : Console) (r : Request)

theorem ruled_cfgPoint : RuledBy (requestTests s c 0x60#8 r) s (cfgPoint c r s) := by
  refine .taken (spells_write s c (.cons decide_eq_true_iff.symm (.one ?_)))
  rw [Bool.or_eq_true, Bool.or_eq_true, decide_eq_true_iff, decide_eq_true_iff, ← priorityOf_isNone, or_assoc, or_assoc]
  rfl

theorem ruled_cfgArea : RuledBy (requestTests s c 0x61#8 r) s (cfgArea c r s) := by
  refine .taken (spells_write s c (.one ?_))
  rw [Bool.or_eq_true, Bool.or_eq_true, Bool.or_eq_true, decide_eq_true_iff, decide_eq_true_iff, decide_eq_true_iff,
    ← jointAckOf_isNone, or_assoc, or_assoc]

/-- R9: another slot holds the number. -/
theorem duplicate_iff {k : SlotNo} {n : Nat} :
    (∃ (j : SlotNo) (op : Operator), j ≠ k ∧ s.roster[j] = some op ∧ op.number = n) ↔
      ((entries s.roster).any fun x => x.1 != k && x.2.any (·.number == n)) = true := by
  rw [List.any_eq_true]
  simp only [Bool.and_eq_true, bne_iff_ne, Option.any_eq_true, beq_iff_eq]
  constructor
  · rintro ⟨j, op, other, held, number⟩
    exact ⟨(j, some op), mem_entries.mpr held, other, op, rfl, number⟩
  · rintro ⟨⟨j, slot⟩, entry, other, op, held, number⟩
    exact ⟨j, op, other, (mem_entries.mp entry).trans held, number⟩

theorem ruled_cfgOperator : RuledBy (requestTests s c 0x62#8 r) s (cfgOperator c r s) := by
  refine .taken (spells_write s c (.cons decide_eq_true_iff.symm (.cons decide_eq_true_iff.symm
    (.cons roleOf_isNone (.cons ?_ (.one ?_))))))
  · rw [Bool.and_eq_true, bne_iff_ne]
    exact and_congr_right' (not_congr roleOf_supervisor).symm
  · rw [Bool.and_eq_true, bne_iff_ne, ← duplicate_iff]

theorem timingRange_iff {sel v : Nat} : timingRange sel v = true ↔
    (sel = 0 ∧ 30 ≤ v ∧ v ≤ 1800) ∨ (sel = 1 ∧ 60 ≤ v ∧ v ≤ 7200) ∨ (sel = 2 ∧ 1 ≤ v ∧ v ≤ 20) ∨
      (sel = 3 ∧ 10 ≤ v ∧ v ≤ 600) := by
  match sel with
  | 0 => simp [timingRange]
  | 1 => simp [timingRange]
  | 2 => simp [timingRange]
  | 3 => simp [timingRange]
  | n + 4 =>
    refine iff_of_false Bool.false_ne_true ?_
    omega

theorem ruled_cfgTiming : RuledBy (requestTests s c 0x63#8 r) s (cfgTiming c r s) := by
  refine .taken (spells_write s c (.one ?_))
  rw [Bool.not_eq_true', ← Bool.not_eq_true, timingRange_iff]

theorem floodOutOfRange_iff {sel a b : Nat} : floodOutOfRange sel a b = true ↔
    (sel ≤ 23 ∧ (a = 0 ∨ 32767 < a ∨ 32767 < b)) ∨ (sel = 28 ∧ (a = 0 ∨ 10 < a)) := by
  unfold floodOutOfRange
  split
  · simp
    omega
  · simp
    omega

theorem ruled_cfgFlood : RuledBy (requestTests s c 0x64#8 r) s (cfgFlood c r s) :=
  .taken (spells_write s c (.cons decide_eq_true_iff.symm (.one floodOutOfRange_iff.symm)))

theorem linksRange_iff {sel v : Nat} : linksRange sel v = true ↔
    (sel = 0 ∧ v ≤ 3) ∨ (sel = 1 ∧ 1 ≤ v ∧ v ≤ 10) ∨ (sel = 2 ∧ v ≤ 4) := by
  match sel with
  | 0 => simp [linksRange]
  | 1 => simp [linksRange]
  | 2 => simp [linksRange]
  | n + 3 =>
    refine iff_of_false Bool.false_ne_true ?_
    omega

theorem ruled_cfgLinks : RuledBy (requestTests s c 0x65#8 r) s (cfgLinks c r s) := by
  refine .taken (spells_write s c (.one ?_))
  rw [Bool.not_eq_true', ← Bool.not_eq_true, linksRange_iff]

theorem codeFields_within (b1 b2 b3 : Byte) : ((codeFields b1 b2 b3).all fun k => decide (k ≤ 12)) = true ↔
    ¬ ∃ b ∈ [b1, b2, b3], 12 < b.toNat / 16 ∨ 12 < b.toNat % 16 := by
  simp [codeFields, highNibble, lowNibble]
  tauto

theorem boardInRange_iff {r : Request} : boardInRange r = true ↔
    (r.b3.toNat = 0 ∧ r.b4.toNat ≤ 1 ∧ r.b5.toNat ∈ [1, 2, 4, 8] ∧ 1 ≤ r.b6.toNat ∧ r.b6.toNat ≤ 8) ∨
    (r.b3.toNat = 1 ∧ 1 ≤ r.b4.toNat ∧ r.b4.toNat ≤ 12 ∧
      ¬ ∃ b ∈ [r.b5, r.b6, r.b7], 12 < b.toNat / 16 ∨ 12 < b.toNat % 16) ∨
    (r.b3.toNat = 2 ∧ ¬ ∃ b ∈ [r.b4, r.b5, r.b6], 12 < b.toNat / 16 ∨ 12 < b.toNat % 16) := by
  rw [← codeFields_within, ← codeFields_within]
  unfold boardInRange
  generalize r.b3.toNat = sel
  match sel with
  | 0 =>
    simp [patternKindOf_isSome, and_assoc]
  | 1 => simp [and_assoc]
  | 2 => simp
  | n + 3 =>
    refine iff_of_false Bool.false_ne_true ?_
    omega

theorem ruled_cfgBoard : RuledBy (requestTests s c 0x66#8 r) s (cfgBoard c r s) := by
  refine .taken (spells_write s c (.one ?_))
  rw [Bool.not_eq_true', ← Bool.not_eq_true, boardInRange_iff]

theorem ruled_cfgClock : RuledBy (requestTests s c 0x67#8 r) s (cfgClock c r s) :=
  .taken (spells_write s c (.one beq_iff_eq.symm))

end Sys2Proof.Machine
end

section
/-! The tests of the operators' requests: R12, R16, R22, R36 to R38, R54, R58, R61, R86 to R105. -/

namespace Sys2Proof.Machine

/-! ## The slot of an operator number (R12) -/

/-- A slot that holds a number. -/
def State.slotHolds (s : State) (n : Nat) (k : SlotNo) (op : Operator) : Prop := s.roster[k] = some op ∧ op.number = n

theorem slotOfNumber_find (s : State) (n : Nat) :
    slotOfNumber s n = (List.finRange 64).find? fun k : SlotNo => s.roster[k].any (·.number == n) := by
  have table : entries s.roster = (List.finRange 64).map fun k : SlotNo => (k, s.roster[k]) := by
    apply List.ext_getElem <;> simp [entries]
  unfold slotOfNumber
  rw [table, List.find?_map, Option.map_map]
  exact Option.map_id' ..

theorem any_number_iff {s : State} {n : Nat} {k : SlotNo} :
    s.roster[k].any (·.number == n) = true ↔ ∃ op, s.slotHolds n k op := by
  simp only [Option.any_eq_true, beq_iff_eq]
  rfl

theorem slotOfNumber_isNone {s : State} {n : Nat} :
    (∀ k op, ¬ s.slotHolds n k op) ↔ (slotOfNumber s n).isNone = true := by
  rw [Option.isNone_iff_eq_none, slotOfNumber_find, List.find?_eq_none]
  simp only [List.mem_finRange, any_number_iff, true_implies]
  push Not
  rfl

theorem slotOfNumber_eq_some {s : State} {n : Nat} {k : SlotNo} : slotOfNumber s n = some k ↔
    (∃ op, s.slotHolds n k op) ∧ ∀ j o, s.slotHolds n j o → k ≤ j := by
  rw [slotOfNumber_find, find?_eq_some_iff_least Fin.val (List.pairwise_lt_finRange 64) List.mem_finRange, any_number_iff]
  refine and_congr_right' (forall_congr' fun j => ?_)
  rw [any_number_iff]
  exact ⟨fun h o held => h ⟨o, held⟩, fun h ⟨o, held⟩ => h o held⟩

variable (s : State) (c : Console) (r : Request)

/-- R12: the operator of a number is signed on at another console. -/
theorem elsewhere_iff {n : Nat} :
    (∃ k op d, s.slotHolds n k op ∧ (∀ j o, s.slotHolds n j o → k ≤ j) ∧ op.console = some d ∧ d ≠ c) ↔
      (((slotOfNumber s n).bind fun k => s.roster[k]).any fun op => op.console.any (· != c)) = true := by
  rw [Option.any_eq_true]
  simp only [Option.any_eq_true, Option.bind_eq_some_iff, bne_iff_ne]
  constructor
  · rintro ⟨k, op, d, held, least, console, other⟩
    exact ⟨op, ⟨k, slotOfNumber_eq_some.mpr ⟨⟨op, held⟩, least⟩, held.1⟩, d, console, other⟩
  · rintro ⟨op, ⟨k, slot, held⟩, d, console, other⟩
    obtain ⟨⟨o, here⟩, least⟩ := slotOfNumber_eq_some.mp slot
    obtain rfl := Option.some_inj.mp (here.1.symm.trans held)
    exact ⟨k, o, d, here, least, console, other⟩

theorem ruled_signOn : RuledBy (requestTests s c 0x10#8 r) s (signOn c r s) := by
  refine .taken (spells_service s (.cons zero_or_decides (.cons slotOfNumber_isNone (.cons (elsewhere_iff s c)
    (.one ?_)))))
  exact Option.isSome_iff_ne_none.symm

/-! ## Areas of a set -/

theorem any_members_iff {set : AreaSet} {p : AreaNo → Prop} {f : AreaNo → Bool} (same : ∀ a, p a ↔ f a = true) :
    (∃ a : AreaNo, set.getLsbD a = true ∧ p a) ↔ (members set).any f = true := by
  simp only [any_members, same]

theorem ruled_takeover : RuledBy (requestTests s c 0x36#8 r) s (takeover c r s) := by
  refine .taken (spells_service s ((spells_supervisor s c).append (.cons beq_iff_eq.symm (.cons ?_ (.one ?_)))))
  · exact any_members_iff fun a => (isAttended_iff _).symm
  · exact any_members_iff fun a => Option.isSome_iff_ne_none.symm

/-! ## Acknowledgements (R16, R36 to R38) -/

theorem not_unacknowledged_iff {q : Point} :
    (q.state ≠ .raised ∧ q.state ≠ .returned) ↔ (!q.unacknowledged) = true := by
  rw [Point.unacknowledged, Bool.not_or, Bool.and_eq_true, Bool.not_eq_true', Bool.not_eq_true', beq_eq_false_iff_ne,
    beq_eq_false_iff_ne]

/-- R18: a point already acknowledged by the party that asks. -/
theorem ackResult_passed_iff {p : PointNo} : ackResult s p c = .passed ↔ s.jointAt p c ∧ c ∈ (s.point p).ackSet := by
  refine ⟨fun passed => ?_, fun ⟨joint, again⟩ => ackResult_passed joint again⟩
  by_cases joint : s.jointAt p c
  · refine ⟨joint, ?_⟩
    rw [ackResult_of_joint joint] at passed
    by_contra other
    rw [if_neg other] at passed
    split at passed <;> exact AckResult.noConfusion passed
  · exact AckResult.noConfusion ((ackResult_of_not_joint joint).symm.trans passed)

/-- A test that the override flag passes. -/
theorem unless_override {override : Bool} {p : Prop} {b : Bool} (same : p ↔ b = true) :
    (¬ override = true ∧ p) ↔ (!override && b) = true := by
  rw [Bool.and_eq_true, Bool.not_eq_true', Bool.not_eq_true, same]

theorem under_override {override : Bool} {p : Prop} {b : Bool} (same : p ↔ b = true) :
    (override = true ∧ p) ↔ (override && b) = true := by
  rw [Bool.and_eq_true, same]

theorem ruled_ackPoint : RuledBy (requestTests s c 0x20#8 r) s (ackPoint c r s) := by
  refine .taken (spells_service s (((spells_operator s c).append (.cons (under_override bne_iff_ne.symm)
    (.one (under_override no_supervisorAt_iff)))).append (.cons decide_eq_true_iff.symm (.cons ?_
      (.cons (unless_override beq_iff_eq.symm) (.cons not_unacknowledged_iff (.one ?_)))))))
  · rw [Bool.not_eq_true']
  · refine unless_override ?_
    rw [beq_iff_eq, ackResult_passed_iff, State.jointAt, and_assoc, and_assoc]

theorem ruled_ackArea : RuledBy (requestTests s c 0x21#8 r) s (ackArea c r s) :=
  .taken (spells_service s ((spells_operator s c).append (.cons decide_eq_true_iff.symm (.one beq_iff_eq.symm))))

theorem ruled_ackAll : RuledBy (requestTests s c 0x22#8 r) s (ackAll c r s) :=
  .taken (spells_service s (spells_operator s c))

/-! ## The shelf and the groups (R54, R58, R61) -/

theorem not_onShelf_iff {p : PointNo} : (¬ ∃ e ∈ s.shelf, e.point = p) ↔ (!onShelf s p) = true := by
  rw [Bool.not_eq_true', ← Bool.not_eq_true, onShelf_iff]

theorem pointTest_iff {n : Nat} {q : Point} :
    (511 < n ∨ q.configured = false) ↔ (decide (511 < n) || !q.configured) = true := by
  rw [Bool.or_eq_true, decide_eq_true_iff, Bool.not_eq_true']

theorem ruled_shelve : RuledBy (requestTests s c 0x30#8 r) s (shelve c r s) := by
  refine .taken (spells_service s ((spells_operator s c).append (.cons pointTest_iff (.cons beq_iff_eq.symm
    (.cons bne_iff_ne.symm (.cons Option.isSome_iff_ne_none.symm (.cons ?_ (.one ?_))))))))
  · rw [Bool.not_eq_true']
  · rw [Bool.and_eq_true, decide_eq_true_iff, ← not_onShelf_iff]

theorem ruled_unshelve : RuledBy (requestTests s c 0x31#8 r) s (unshelve c r s) :=
  .taken (spells_service s ((spells_operator s c).append (.cons pointTest_iff (.cons bne_iff_ne.symm
    (.one (not_onShelf_iff s))))))

theorem firstPointOwner_ne_iff {g : GroupNo} :
    (∀ p, s.groups[g] = .tripped p → (s.area (s.point p).area).owner ≠ c) ↔ (firstPointOwner s g != some c) = true := by
  rw [bne_iff_ne]
  unfold firstPointOwner
  cases s.groups[g] with
  | armed => exact iff_of_true (fun p h => Group.noConfusion h) nofun
  | tripped p =>
    refine ⟨fun h same => h p rfl (Option.some_inj.mp same), fun h q same => ?_⟩
    obtain rfl := Group.tripped.inj same
    exact fun owner => h (congrArg some owner)

theorem ruled_rearmGroup : RuledBy (requestTests s c 0x33#8 r) s (rearmGroup c r s) :=
  .taken (spells_service s (.cons zero_or_decides ((spells_operator s c).append (.cons beq_iff_eq.symm
    (.one (firstPointOwner_ne_iff s c))))))

/-! ## The handover requests (R86) -/

theorem spells_record (n : Nat) {tests : List RequestTest} {l : List Check} (rest : SpelledBy tests l) :
    SpelledBy (serviceTest s :: rangeTest (3 < n) :: operatorTests s c ++ tests) (hoChecks s c n ++ l) :=
  SpelledBy.append (spells_service s (.cons decide_eq_true_iff.symm (spells_operator s c))) rest

theorem not_qualified_iff {set : AreaSet} :
    ¬ QualifiedFor s c set ↔ ((members set).any fun a => !s.qualifiedAt c a) = true := by
  unfold QualifiedFor
  rw [any_members]
  push Not
  refine exists_congr fun a => and_congr_right' ?_
  rw [Bool.not_eq_true', ← Bool.not_eq_true, State.qualifiedAt, Option.any_eq_true]
  simp only [qualified, Bool.and_eq_true, bne_iff_ne]
  push Not
  rfl

theorem free_iff {h : HoRecord} : h.phase = .free ↔ (!h.live) = true := by
  rw [Bool.not_eq_true', ← Bool.not_eq_true, HoRecord.live_iff, not_not]

theorem find_allFour_isSome {f : Fin 4 → Bool} : (allFour.find? f).isSome = true ↔ ∃ m, f m = true := by
  rw [List.find?_isSome]
  exact ⟨fun ⟨m, _, h⟩ => ⟨m, h⟩, fun ⟨m, h⟩ => ⟨m, by fin_cases m <;> decide, h⟩⟩

theorem incomingRecord_isSome {d : Console} :
    (∃ m, (s.record m).phase ≠ .free ∧ (s.record m).inConsole = some d) ↔ (incomingRecord s d).isSome = true := by
  rw [incomingRecord, find_allFour_isSome]
  refine exists_congr fun m => ?_
  rw [Bool.and_eq_true, HoRecord.live_iff, beq_iff_eq]

theorem outgoingRecord_isSome {d : Console} :
    (∃ m, (s.record m).phase ≠ .free ∧ (s.record m).outConsole = some d) ↔ (outgoingRecord s d).isSome = true := by
  rw [outgoingRecord, find_allFour_isSome]
  refine exists_congr fun m => ?_
  rw [Bool.and_eq_true, HoRecord.live_iff, beq_iff_eq]

theorem freeRecord_isNone : (∀ m, (s.record m).phase ≠ .free) ↔ (freeRecord s).isNone = true := by
  rw [← Option.not_isSome, Bool.not_eq_true', ← Bool.not_eq_true, freeRecord, find_allFour_isSome]
  push Not
  exact forall_congr' fun m => not_congr beq_iff_eq.symm

theorem ruled_hoOffer : RuledBy (requestTests s c 0x40#8 r) s (hoOffer c r s) := by
  refine .taken (spells_service s ((spells_operator s c).append (.cons ?_ (.cons (incomingRecord_isSome s) (.cons ?_
    (.cons ?_ (.cons (freeRecord_isNone s) (.one (outgoingRecord_isSome s)))))))))
  · rw [Bool.or_eq_true, Bool.or_eq_true, decide_eq_true_iff, beq_iff_eq, beq_iff_eq, or_assoc]
  · exact any_members_iff fun a => bne_iff_ne.symm
  · exact any_members_iff fun a => Option.isSome_iff_ne_none.symm

theorem ruled_hoAccept : RuledBy (requestTests s c 0x41#8 r) s (hoAccept c r s) :=
  .taken (spells_record s c _ (.cons bne_iff_ne.symm (.cons bne_iff_ne.symm (.one (not_qualified_iff s c)))))

theorem ruled_hoDecline : RuledBy (requestTests s c 0x42#8 r) s (hoDecline c r s) :=
  .taken (spells_record s c _ (.cons bne_iff_ne.symm (.one bne_iff_ne.symm)))

theorem ruled_hoWithdraw : RuledBy (requestTests s c 0x43#8 r) s (hoWithdraw c r s) :=
  .taken (spells_record s c _ (.cons bne_iff_ne.symm (.one free_iff)))

theorem ruled_hoPresent : RuledBy (requestTests s c 0x44#8 r) s (hoPresent c r s) :=
  .taken (spells_record s c _ (.cons bne_iff_ne.symm (.one bne_iff_ne.symm)))

theorem ruled_hoConfirm : RuledBy (requestTests s c 0x45#8 r) s (hoConfirm c r s) :=
  .taken (spells_record s c _ (.cons bne_iff_ne.symm (.cons bne_iff_ne.symm (.one bne_iff_ne.symm))))

theorem ruled_hoRelease : RuledBy (requestTests s c 0x46#8 r) s (hoRelease c r s) :=
  .taken (spells_record s c _ (.cons bne_iff_ne.symm (.one bne_iff_ne.symm)))

theorem ruled_hoUnrelease : RuledBy (requestTests s c 0x47#8 r) s (hoUnrelease c r s) :=
  .taken (spells_record s c _ (.cons bne_iff_ne.symm (.one bne_iff_ne.symm)))

theorem ruled_hoTake : RuledBy (requestTests s c 0x48#8 r) s (hoTake c r s) := by
  refine .taken (spells_record s c _ (.cons bne_iff_ne.symm (.cons bne_iff_ne.symm (.cons Iff.rfl
    (.reason ?_ (.reason ?_ (.reason ?_ (.one bne_iff_ne.symm))))))))
  · exact (Bool.not_eq_true' _).symm.to_iff
  · rw [Bool.not_eq_true', HoRecord.complete, beq_eq_false_iff_ne]
    exact Iff.rfl
  · rw [Bool.not_eq_true', ← Bool.not_eq_true, gateClear_iff]
    rfl

/-- R105: COMMIT asks for a REVIEWING record, CANCEL for a live one. -/
theorem forcePhase_iff {h : HoRecord} {action : Nat} :
    ((action = 0 ∧ h.phase ≠ .reviewing) ∨ (¬ action = 0 ∧ h.phase = .free)) ↔
      (if action = 0 then h.phase != .reviewing else !h.live) = true := by
  by_cases commit : action = 0
  · rw [if_pos commit, bne_iff_ne]
    simp [commit]
  · rw [if_neg commit, ← free_iff]
    simp [commit]

theorem ruled_hoForce : RuledBy (requestTests s c 0x49#8 r) s (hoForce c r s) := by
  refine .taken (spells_service s (.cons or_decides ((spells_supervisor s c).append (.cons ?_ (.cons ?_ (.one ?_))))))
  · exact forcePhase_iff
  · rw [Bool.and_eq_true, beq_iff_eq, bne_iff_ne]
    exact Iff.rfl
  · rw [Bool.and_eq_true, beq_iff_eq, ← not_qualified_iff]
    exact Iff.rfl

end Sys2Proof.Machine
end

section
/-! Which requests are refused, and what a refusal leaves: R10, R167, R168, R173, R174. -/

namespace Sys2Proof.Machine

/-! ## What a ruled request answers -/

variable {c : Console} {r : Request} {s : State} {body : State → State × Reply} {tests : List RequestTest}

/-- R167, R168: what the arrival of a frame and a refusal of its request leave. -/
def refusedWith (c : Console) (r : Request) (s : State) (rp : Reply) : State :=
  settle ((frameArrives c s).setPort c { (frameArrives c s).port c with
    response := responseOf rp.status r.tag rp.record, result := rp.record })

theorem RuledBy.first_failing (h : RuledBy tests (frameArrives c s) (body (frameArrives c s)))
    {before after : List RequestTest} {x : RequestTest} (split : tests = before ++ x :: after)
    (pass : ∀ y ∈ before, ¬ y.failsWhen) (fails : x.failsWhen) :
    request c r body s = .next (refusedWith c r s ⟨x.status, x.record⟩) := by
  obtain ⟨l, k, decides, -, spelled⟩ := h
  exact request_refused decides ((firstFailure_spelled spelled.spells).1 before after x split pass fails)

/-- R168: a response to a refusal has at most one byte of record. -/
theorem responseOf_brief {record : List Byte} (brief : record.length ≤ 1) (st : Status) (tag : Byte) :
    responseOf st tag record = ⟨st, tag, record.getD 0 0#8, 0#8, 0#8, 0#8, 0#8⟩ := by
  have past (k : Nat) : record.getD (k + 1) 0#8 = 0#8 := List.getD_eq_default _ _ (Nat.le_trans brief (Nat.le_add_left 1 k))
  rw [responseOf, past, past, past, past]

theorem RuledBy.brief {out : State × Reply} (h : RuledBy tests s out) : ∀ x ∈ tests, x.record.length ≤ 1 := by
  obtain ⟨l, k, -, -, spelled⟩ := h
  exact spelled.brief

theorem RuledBy.none_failing (h : RuledBy tests (frameArrives c s) (body (frameArrives c s)))
    (pass : ∀ x ∈ tests, ¬ x.failsWhen) :
    ∃ t, request c r body s = .next t ∧
      ((t.port c).response.status = .ok ∨ (t.port c).response.status = .endOfList) := by
  obtain ⟨l, k, decides, status, spelled⟩ := h
  obtain ⟨t, runs, answered⟩ := request_taken decides ((firstFailure_spelled spelled.spells).2 pass)
  exact ⟨t, runs, by rwa [answered]⟩

/-- R167: an answer other than OK or END leaves only its port's response and record. -/
theorem RuledBy.refusal_leaves (h : RuledBy tests (frameArrives c s) (body (frameArrives c s))) {t : State}
    (runs : request c r body s = .next t) (notOk : (t.port c).response.status ≠ .ok)
    (notEnd : (t.port c).response.status ≠ .endOfList) : ∃ rp, t = refusedWith c r s rp := by
  obtain ⟨l, k, decides, status, -⟩ := h
  cases first : firstFailure l with
  | some rp => exact ⟨rp, Host.Outcome.next.inj (runs.symm.trans (request_refused decides first))⟩
  | none =>
    obtain ⟨u, taken, answered⟩ := request_taken (r := r) decides first
    obtain rfl := Host.Outcome.next.inj (runs.symm.trans taken)
    rw [answered] at notOk notEnd
    exact (status.elim notOk notEnd).elim

theorem refusedWith_port (c : Console) (r : Request) (s : State) (rp : Reply) :
    ((refusedWith c r s rp).port c).response = responseOf rp.status r.tag rp.record ∧
    ((refusedWith c r s rp).port c).result = rp.record := by
  rw [refusedWith, settle_port, State.port_setPort, if_pos rfl]
  exact ⟨rfl, rfl⟩

/-! ## Every request by its code -/

/-- R167: what a request of a listed code runs, with the tests that rule it. -/
def runsRuled (i : Instr) (c : Console) (code : Byte) (r : Request) : Prop :=
  ∃ body : State → State × Reply, (∀ s, exec i s = request c r body s) ∧ (i.wellFormed = true → code ≠ 0x01#8) ∧
    ∀ s, ∃ tests, RuledBy tests s (body s) ∧ (i.wellFormed = true → tests = requestTests s c code r)

theorem runsRuled.of {i : Instr} {c : Console} {code : Byte} {r : Request} {body : State → State × Reply}
    (other : code ≠ 0x01#8) (runs : ∀ s, exec i s = request c r body s)
    (ruled : ∀ s, RuledBy (requestTests s c code r) s (body s)) : runsRuled i c code r :=
  ⟨body, runs, fun _ => other, fun s => ⟨_, ruled s, fun _ => rfl⟩⟩

theorem listed_of_toNat {code : Byte} {k : Nat} (named : code.toNat = k) (row : BitVec.ofNat 8 k ∈ listedCodes) :
    code ∈ listedCodes := by
  rwa [← named, BitVec.ofNat_toNat, BitVec.setWidth_eq] at row

/-- 10.3: a code that the command table does not list is BAD_COMMAND. -/
theorem requestTests_unlisted {s : State} {c : Console} {code : Byte} {r : Request} (unlisted : listedCode code = false) :
    requestTests s c code r = [{ failsWhen := True, status := .badCommand }] := by
  have absent : code ∉ listedCodes := by simpa [listedCode] using unlisted
  unfold requestTests
  dsimp only
  split
  case h_58 => rfl
  all_goals
    next named => exact absurd (listed_of_toNat named (by decide)) absent

theorem runsRuled_badCommand (c : Console) (code : Byte) (r : Request) :
    runsRuled (.badCommand c code r) c code r := by
  refine ⟨fun s => (s, ⟨.badCommand, []⟩), fun _ => rfl, fun formed => ?_, fun s => ⟨[{ failsWhen := True, status := .badCommand }], ?_, fun formed => ?_⟩⟩
  · rintro rfl
    exact Bool.noConfusion formed
  · exact ⟨[fails true .badCommand], taken s [], rfl, .inl rfl, .one (iff_of_true trivial rfl)⟩
  · exact (requestTests_unlisted (Bool.not_eq_true' _ ▸ formed)).symm

/-- 10.3: every frame is NOP, READ_MORE, PORT_RESET or a request that its tests rule. -/
theorem frames_ruled {i : Instr} {c : Console} {code : Byte} {r : Request} (spelled : frameOf i = some (c, code, r)) :
    i = .nop c r ∨ i = .readMore c r ∨ i = .portReset c r ∨ runsRuled i c code r := by
  cases i
  case nop d q =>
    cases spelled
    exact .inl rfl
  case readMore d q =>
    cases spelled
    exact .inr (.inl rfl)
  case portReset d q =>
    cases spelled
    exact .inr (.inr (.inl rfl))
  case readFlags d q =>
    cases spelled
    exact .inr (.inr (.inr (.of (by decide) (fun _ => rfl) fun s => ruled_readFlags s c r)))
  case clearFlags d q =>
    cases spelled
    exact .inr (.inr (.inr (.of (by decide) (fun _ => rfl) fun s => ruled_clearFlags s c r)))
  case setMask d q =>
    cases spelled
    exact .inr (.inr (.inr (.of (by decide) (fun _ => rfl) fun s => ruled_setMask s c r)))
  case readConditions d q =>
    cases spelled
    exact .inr (.inr (.inr (.of (by decide) (fun _ => rfl) fun s => ruled_readConditions s c r)))
  case signOn d q =>
    cases spelled
    exact .inr (.inr (.inr (.of (by decide) (fun _ => rfl) fun s => ruled_signOn s c r)))
  case signOff d q =>
    cases spelled
    exact .inr (.inr (.inr (.of (by decide) (fun _ => rfl) fun s => ruled_signOff s c r)))
  case readSignon d q =>
    cases spelled
    exact .inr (.inr (.inr (.of (by decide) (fun _ => rfl) fun s => ruled_readSignon s c r)))
  case readOperator d q =>
    cases spelled
    exact .inr (.inr (.inr (.of (by decide) (fun _ => rfl) fun s => ruled_readOperator s c r)))
  case ackPoint d q =>
    cases spelled
    exact .inr (.inr (.inr (.of (by decide) (fun _ => rfl) fun s => ruled_ackPoint s c r)))
  case ackArea d q =>
    cases spelled
    exact .inr (.inr (.inr (.of (by decide) (fun _ => rfl) fun s => ruled_ackArea s c r)))
  case ackAll d q =>
    cases spelled
    exact .inr (.inr (.inr (.of (by decide) (fun _ => rfl) fun s => ruled_ackAll s c r)))
  case silence d q =>
    cases spelled
    exact .inr (.inr (.inr (.of (by decide) (fun _ => rfl) fun s => ruled_silence s c r)))
  case listOpen d q =>
    cases spelled
    exact .inr (.inr (.inr (.of (by decide) (fun _ => rfl) fun s => ruled_listOpen s c r)))
  case listNext d q =>
    cases spelled
    exact .inr (.inr (.inr (.of (by decide) (fun _ => rfl) fun s => ruled_listNext s c r)))
  case readPoint d q =>
    cases spelled
    exact .inr (.inr (.inr (.of (by decide) (fun _ => rfl) fun s => ruled_readPoint s c r)))
  case readArea d q =>
    cases spelled
    exact .inr (.inr (.inr (.of (by decide) (fun _ => rfl) fun s => ruled_readArea s c r)))
  case readHorn d q =>
    cases spelled
    exact .inr (.inr (.inr (.of (by decide) (fun _ => rfl) fun s => ruled_readHorn s c r)))
  case lampTest d q =>
    cases spelled
    exact .inr (.inr (.inr (.of (by decide) (fun _ => rfl) fun s => ruled_lampTest s c r)))
  case shelve d q =>
    cases spelled
    exact .inr (.inr (.inr (.of (by decide) (fun _ => rfl) fun s => ruled_shelve s c r)))
  case unshelve d q =>
    cases spelled
    exact .inr (.inr (.inr (.of (by decide) (fun _ => rfl) fun s => ruled_unshelve s c r)))
  case readShelf d q =>
    cases spelled
    exact .inr (.inr (.inr (.of (by decide) (fun _ => rfl) fun s => ruled_readShelf s c r)))
  case rearmGroup d q =>
    cases spelled
    exact .inr (.inr (.inr (.of (by decide) (fun _ => rfl) fun s => ruled_rearmGroup s c r)))
  case readGroup d q =>
    cases spelled
    exact .inr (.inr (.inr (.of (by decide) (fun _ => rfl) fun s => ruled_readGroup s c r)))
  case readFlood d q =>
    cases spelled
    exact .inr (.inr (.inr (.of (by decide) (fun _ => rfl) fun s => ruled_readFlood s c r)))
  case takeover d q =>
    cases spelled
    exact .inr (.inr (.inr (.of (by decide) (fun _ => rfl) fun s => ruled_takeover s c r)))
  case hoOffer d q =>
    cases spelled
    exact .inr (.inr (.inr (.of (by decide) (fun _ => rfl) fun s => ruled_hoOffer s c r)))
  case hoAccept d q =>
    cases spelled
    exact .inr (.inr (.inr (.of (by decide) (fun _ => rfl) fun s => ruled_hoAccept s c r)))
  case hoDecline d q =>
    cases spelled
    exact .inr (.inr (.inr (.of (by decide) (fun _ => rfl) fun s => ruled_hoDecline s c r)))
  case hoWithdraw d q =>
    cases spelled
    exact .inr (.inr (.inr (.of (by decide) (fun _ => rfl) fun s => ruled_hoWithdraw s c r)))
  case hoPresent d q =>
    cases spelled
    exact .inr (.inr (.inr (.of (by decide) (fun _ => rfl) fun s => ruled_hoPresent s c r)))
  case hoConfirm d q =>
    cases spelled
    exact .inr (.inr (.inr (.of (by decide) (fun _ => rfl) fun s => ruled_hoConfirm s c r)))
  case hoRelease d q =>
    cases spelled
    exact .inr (.inr (.inr (.of (by decide) (fun _ => rfl) fun s => ruled_hoRelease s c r)))
  case hoUnrelease d q =>
    cases spelled
    exact .inr (.inr (.inr (.of (by decide) (fun _ => rfl) fun s => ruled_hoUnrelease s c r)))
  case hoTake d q =>
    cases spelled
    exact .inr (.inr (.inr (.of (by decide) (fun _ => rfl) fun s => ruled_hoTake s c r)))
  case hoForceCommit d q =>
    cases spelled
    exact .inr (.inr (.inr (.of (by decide) (fun _ => rfl) fun s => ruled_hoForce s c r)))
  case hoForceCancel d q =>
    cases spelled
    exact .inr (.inr (.inr (.of (by decide) (fun _ => rfl) fun s => ruled_hoForce s c r)))
  case hoRead d q =>
    cases spelled
    exact .inr (.inr (.inr (.of (by decide) (fun _ => rfl) fun s => ruled_hoRead s c r)))
  case setTime d q =>
    cases spelled
    exact .inr (.inr (.inr (.of (by decide) (fun _ => rfl) fun s => ruled_setTime s c r)))
  case journalStart d q =>
    cases spelled
    exact .inr (.inr (.inr (.of (by decide) (fun _ => rfl) fun s => ruled_journalStart s c r)))
  case journalStop d q =>
    cases spelled
    exact .inr (.inr (.inr (.of (by decide) (fun _ => rfl) fun s => ruled_journalStop s c r)))
  case journalClear d q =>
    cases spelled
    exact .inr (.inr (.inr (.of (by decide) (fun _ => rfl) fun s => ruled_journalClear s c r)))
  case journalReset d q =>
    cases spelled
    exact .inr (.inr (.inr (.of (by decide) (fun _ => rfl) fun s => ruled_journalReset s c r)))
  case readJournal d q =>
    cases spelled
    exact .inr (.inr (.inr (.of (by decide) (fun _ => rfl) fun s => ruled_readJournal s c r)))
  case readLinkCounts d q =>
    cases spelled
    exact .inr (.inr (.inr (.of (by decide) (fun _ => rfl) fun s => ruled_readLinkCounts s c r)))
  case cfgPoint d q =>
    cases spelled
    exact .inr (.inr (.inr (.of (by decide) (fun _ => rfl) fun s => ruled_cfgPoint s c r)))
  case cfgArea d q =>
    cases spelled
    exact .inr (.inr (.inr (.of (by decide) (fun _ => rfl) fun s => ruled_cfgArea s c r)))
  case cfgOperator d q =>
    cases spelled
    exact .inr (.inr (.inr (.of (by decide) (fun _ => rfl) fun s => ruled_cfgOperator s c r)))
  case cfgTiming d q =>
    cases spelled
    exact .inr (.inr (.inr (.of (by decide) (fun _ => rfl) fun s => ruled_cfgTiming s c r)))
  case cfgFlood d q =>
    cases spelled
    exact .inr (.inr (.inr (.of (by decide) (fun _ => rfl) fun s => ruled_cfgFlood s c r)))
  case cfgLinks d q =>
    cases spelled
    exact .inr (.inr (.inr (.of (by decide) (fun _ => rfl) fun s => ruled_cfgLinks s c r)))
  case cfgBoard d q =>
    cases spelled
    exact .inr (.inr (.inr (.of (by decide) (fun _ => rfl) fun s => ruled_cfgBoard s c r)))
  case cfgClock d q =>
    cases spelled
    exact .inr (.inr (.inr (.of (by decide) (fun _ => rfl) fun s => ruled_cfgClock s c r)))
  case commitConfig d q =>
    cases spelled
    exact .inr (.inr (.inr (.of (by decide) (fun _ => rfl) fun s => ruled_commitConfig s c r)))
  case restart d q =>
    cases spelled
    exact .inr (.inr (.inr (.of (by decide) (fun _ => rfl) fun s => ruled_restart s c r)))
  case reconfigure d q =>
    cases spelled
    exact .inr (.inr (.inr (.of (by decide) (fun _ => rfl) fun s => ruled_reconfigure s c r)))
  case badCommand d k q =>
    cases spelled
    exact .inr (.inr (.inr (runsRuled_badCommand c code r)))
  all_goals exact absurd spelled nofun

/-- R168: the port after NOP and READ_MORE. -/
theorem port_respondKeeping (c : Console) (resp : Response) (s : State) :
    ((settle (respondKeeping c resp s)).port c).response = resp ∧
    ((settle (respondKeeping c resp s)).port c).result = (s.port c).result := by
  rw [settle_port, respondKeeping, State.port_setPort, if_pos rfl]
  exact ⟨rfl, rfl⟩

theorem readMoreReply_refused {part : Nat} {record : List Byte} (past : 3 < part) :
    readMoreReply part record = ⟨.badOperand, []⟩ := if_pos past

theorem readMoreReply_taken {part : Nat} {record : List Byte} (within : ¬ 3 < part) :
    (readMoreReply part record).status = .ok ∨ (readMoreReply part record).status = .endOfList := by
  unfold readMoreReply
  rw [if_neg within]
  split
  · exact .inr rfl
  · exact .inl rfl

end Sys2Proof.Machine

namespace Sys2Proof.Proofs

open Sys2Proof.Machine

/-- Settles O7: NOP, READ_MORE and PORT_RESET by themselves, every other request by its tests. -/
theorem refusedRequestsChangeNothing : Obligations.RefusedRequestsChangeNothing := by
  intro i c code r s s1 refused spelled
  rcases frames_ruled spelled with rfl | rfl | rfl | ⟨body, runs, other, ruled⟩
  · cases spelled
    have answered := port_respondKeeping c (responseOf .ok r.tag []) s1
    refine ⟨fun t next notOk => ?_, fun _ => ⟨fun before after x split => ?_, fun _ => ?_⟩⟩
    · obtain rfl := Host.Outcome.next.inj next
      exact absurd (by rw [answered.1]; rfl) notOk
    · exact absurd split (by cases before <;> exact nofun)
    · exact ⟨_, rfl, .inl (by rw [answered.1]; rfl)⟩
  · cases spelled
    let rp := readMoreReply r.b3.toNat (s1.port c).result
    have answered := port_respondKeeping c (responseOf rp.status r.tag rp.record) s1
    refine ⟨fun t next notOk notEnd _ => ?_, fun _ => ⟨fun before after x split pass fails => ?_, fun pass => ?_⟩⟩
    · obtain rfl := Host.Outcome.next.inj next
      rw [answered.1, answered.2]
      exact ⟨rfl, rfl⟩
    · have only : requestTests s1 c 0x01#8 r = [rangeTest (3 < r.b3.toNat)] := rfl
      obtain ⟨rfl, rfl, -⟩ : before = [] ∧ x = rangeTest (3 < r.b3.toNat) ∧ after = [] := by
        simpa [List.singleton_eq_append_iff] using only.symm.trans split
      have refusal : rp = ⟨.badOperand, []⟩ := readMoreReply_refused fails
      exact congrArg (fun x : Reply => Host.Outcome.next (settle (respondKeeping c (responseOf x.status r.tag x.record) s1)))
        refusal
    · refine ⟨_, rfl, ?_⟩
      rw [answered.1]
      exact (readMoreReply_taken fun past => pass _ (List.mem_singleton.mpr rfl) past).imp_right .inl
  · cases spelled
    have idle : ((settle (s1.setPort c (s1.port c).cleared)).port c).response.status = .idle := by
      rw [settle_port, State.port_setPort, if_pos rfl]
      rfl
    refine ⟨fun t next _ _ notIdle => ?_, fun _ => ⟨fun before after x split => ?_, fun _ => ⟨_, rfl, .inr (.inr idle)⟩⟩⟩
    · obtain rfl := Host.Outcome.next.inj next
      exact absurd idle notIdle
    · exact absurd split (by cases before <;> exact nofun)
  · obtain ⟨tests, rule, formed⟩ := ruled s1
    rw [runs]
    refine ⟨fun t next notOk notEnd _ => ?_, fun wellFormed => ?_⟩
    · obtain ⟨rp, rfl⟩ := rule.refusal_leaves next notOk notEnd
      obtain ⟨response, result⟩ := refusedWith_port c r s rp
      rw [response, result]
      exact ⟨rfl, rfl⟩
    · obtain rfl := formed wellFormed
      refine ⟨fun before after x split pass fails => ?_, fun pass => ?_⟩
      · rw [rule.first_failing split pass fails]
        have brief : x.record.length ≤ 1 := rule.brief x (by rw [split]; simp)
        simp only [refused, refusedWith, if_neg (other wellFormed), responseOf_brief brief]
        rfl
      · obtain ⟨t, next, answered⟩ := rule.none_failing pass
        exact ⟨t, next, answered.imp_right .inl⟩

end Sys2Proof.Proofs
end

section
/-! What the sequencer leaves of empty ack sets, and of the checklist of a record that no area names: R30, R34, R97. -/

namespace Sys2Proof.Machine

/-- An effect that puts no console into an empty ack set, and confirms or clears no item of a record that no area
names. -/
structure Hushed (s t : State) : Prop where
  acks : ∀ p, (s.point p).ackSet = [] → (t.point p).ackSet = []
  named : ∀ a, (t.area a).record = (s.area a).record
  confirmed : ∀ n, (∀ a, (s.area a).record ≠ some n) → (t.record n).confirmed = (s.record n).confirmed

variable {s t u : State}

theorem Hushed.refl (s : State) : Hushed s s := ⟨fun _ => id, fun _ => rfl, fun _ _ => rfl⟩

theorem Hushed.trans (h : Hushed s t) (k : Hushed t u) : Hushed s u where
  acks p := k.acks p ∘ h.acks p
  named a := (k.named a).trans (h.named a)
  confirmed n unnamed := (k.confirmed n fun a => by rw [h.named]; exact unnamed a).trans (h.confirmed n unnamed)

/-- A further effect, after a chain. -/
theorem Hushed.after (k : Hushed t u) (h : Hushed s t) : Hushed s u := h.trans k

theorem Hushed.foldl {α : Type} {f : State → α → State} (h : ∀ s x, Hushed s (f s x)) (l : List α) (s : State) :
    Hushed s (l.foldl f s) := by
  induction l generalizing s with
  | nil => exact .refl s
  | cons x l ih => exact (h s x).trans (ih _)

/-! ## Tables -/

/-- An effect on neither points, areas nor records. -/
theorem Hushed.ofApart (points : t.points = s.points) (areas : t.areas = s.areas) (records : t.records = s.records) :
    Hushed s t where
  acks p h := by rw [State.point, points]; exact h
  named a := by rw [State.area, areas, State.area]
  confirmed n _ := by rw [State.record, records, State.record]

/-- An effect on the points that empties ack sets or keeps them. -/
theorem Hushed.ofPoints (v : Vector Point 512) (acks : ∀ p : PointNo, (s.point p).ackSet = [] → (v[p]).ackSet = []) :
    Hushed s { s with points := v } :=
  ⟨acks, fun _ => rfl, fun _ _ => rfl⟩

theorem putPoint_hushed {p : PointNo} {q : Point} (acks : (s.point p).ackSet = [] → q.ackSet = []) :
    Hushed s (s.putPoint p q) where
  acks x h := by
    rw [State.point_putPoint]
    split
    · next same => subst same; exact acks h
    · exact h
  named _ := rfl
  confirmed _ _ := rfl

theorem setPoint_hushed {p : PointNo} {q : Point} (acks : (s.point p).ackSet = [] → q.ackSet = []) :
    Hushed s (s.setPoint p q) where
  acks x h := by
    rw [State.point_setPoint]
    split
    · next same => subst same; exact acks h
    · exact h
  named a := by rw [State.area_setPoint]; rfl
  confirmed n _ := by rw [State.setPoint_eq]; rfl

theorem setArea_hushed {a : AreaNo} {e : Area} (record : e.record = (s.area a).record) : Hushed s (s.setArea a e) where
  acks _ := id
  named b := by
    rw [State.area_setArea]
    split
    · next same => subst same; exact record
    · rfl
  confirmed _ _ := rfl

/-- A record written with its confirmed items as they were, or one that an area names. -/
theorem setRecord_hushed {n : RecordNo} {h : HoRecord}
    (confirmed : (∀ a, (s.area a).record ≠ some n) → h.confirmed = (s.record n).confirmed) :
    Hushed s (s.setRecord n h) where
  acks _ := id
  named _ := rfl
  confirmed m unnamed := by
    rw [State.record_setRecord]
    split
    · next same => subst same; exact confirmed unnamed
    · rfl

/-! ## Flags and the journal -/

theorem setFlagAt_hushed (f : EventFlag) (l : List Console) (s : State) : Hushed s (setFlagAt f l s) := by
  rw [setFlagAt_eq]
  exact .ofApart rfl rfl rfl

theorem lossChange_hushed (i : Input) (s : State) : Hushed s (lossChange i s) := by
  rw [lossChange_eq]
  exact (setFlagAt_hushed ..).after (.ofApart rfl rfl rfl)

/-- A way of offering a record that hushes. -/
def Offer.Hushes (off : Offer) : Prop := ∀ s r, Hushed s (off s r)

theorem offerAlone_hushed (s : State) (r : JournalRecord) : Hushed s (offerAlone s r) := by
  unfold offerAlone
  dsimp only
  split
  · exact .ofApart rfl rfl rfl
  · split
    · exact .ofApart rfl rfl rfl
    · exact (lossChange_hushed ..).after (.ofApart rfl rfl rfl)

theorem offerRecord_hushed : Offer.Hushes offerRecord := by
  intro s r
  unfold offerRecord
  dsimp only
  split
  · split
    · exact (lossChange_hushed ..).after (.ofApart rfl rfl rfl)
    · exact .ofApart rfl rfl rfl
  · exact offerAlone_hushed s r

/-! ## The sequencer -/

theorem checklistEvents_hushed (was now : HoRecord) (s : State) : Hushed s (checklistEvents was now s) := by
  rw [checklistEvents_ports]
  exact .ofApart rfl rfl rfl

/-- R97: a raise clears an item of the record that its area names, and of no other. -/
theorem clearItem0_hushed (s : State) (a : AreaNo) : Hushed s (clearItem0 s a) := by
  rcases clearItem0_cases s a with ⟨-, same⟩ | ⟨n, named, -, clears⟩
  · rw [same]
    exact .refl s
  · rw [clears]
    exact (checklistEvents_hushed ..).after (setRecord_hushed fun unnamed => absurd named (unnamed a))

theorem judgeHold_hushed (s : State) (a : AreaNo) : Hushed s (judgeHold s a) := by
  unfold judgeHold
  split
  · exact .refl s
  · dsimp only
    split
    · exact setRecord_hushed fun _ => rfl
    · exact .refl s

theorem setFlagInScope_hushed (f : EventFlag) (s : State) (a : AreaNo) : Hushed s (setFlagInScope f s a) :=
  setFlagAt_hushed ..

theorem floodRaise_hushed {off : Offer} (ho : off.Hushes) (s : State) (a : AreaNo) (pr : Priority) :
    Hushed s (floodRaise off s a pr) := by
  unfold floodRaise
  dsimp only
  split
  · exact (judgeHold_hushed ..).after <| (setFlagInScope_hushed ..).after <| (ho _ _).after <|
      (setArea_hushed (by rw [State.area_setArea_same])).after (setArea_hushed rfl)
  · exact setArea_hushed rfl

theorem firstOutRaise_hushed {off : Offer} (ho : off.Hushes) (s : State) (p : PointNo) :
    Hushed s (firstOutRaise off s p) := by
  unfold firstOutRaise
  dsimp only
  split
  · exact .refl s
  · split
    · exact (ho _ _).after (Hushed.trans (putPoint_hushed (s := s) (p := p) (by exact id)) (.ofApart rfl rfl rfl))
    · split
      · exact putPoint_hushed (by exact id)
      · exact .refl s

theorem rearm_hushed (g : GroupNo) (s : State) : Hushed s (rearm g s) where
  acks x h := by
    rw [State.point, rearm_points_get]
    split
    · exact h
    · exact h
  named _ := rfl
  confirmed _ _ := rfl

theorem toldNormal_hushed (s : State) (p : PointNo) : Hushed s (toldNormal s p) := by
  by_cases rearms : ∃ g, rearmsAt s p g
  · obtain ⟨g, h⟩ := rearms
    rw [toldNormal_rearms h]
    exact rearm_hushed g s
  · rw [toldNormal_rests fun g h => rearms ⟨g, h⟩]
    exact .refl s

theorem announceRaise_hushed (s : State) (a : AreaNo) (pr : Priority) (quiet : Bool) :
    Hushed s (announceRaise s a pr quiet) := by
  rw [announceRaise_eq]
  exact .ofApart rfl rfl rfl

theorem unsilence_hushed (p : PointNo) (s : State) : Hushed s (unsilence p s) := .ofApart rfl rfl rfl

theorem startRaise_hushed (s : State) (p : PointNo) : Hushed s (startRaise s p) :=
  (unsilence_hushed ..).after (Hushed.trans (setPoint_hushed (s := s) (p := p) fun _ => rfl) (.ofApart rfl rfl rfl))

theorem raisePoint_hushed {off : Offer} (ho : off.Hushes) (s : State) (p : PointNo) : Hushed s (raisePoint off s p) :=
  (ho _ _).after <| (announceRaise_hushed ..).after <| (clearItem0_hushed ..).after <|
    (firstOutRaise_hushed ho _ _).after <| (putPoint_hushed (by exact id)).after <|
      (floodRaise_hushed ho _ _ _).after (startRaise_hushed s p)

theorem stepInput_hushed {off : Offer} (ho : off.Hushes) (s : State) (p : PointNo) : Hushed s (stepInput off s p) := by
  unfold stepInput
  dsimp only
  split
  · exact raisePoint_hushed ho s p
  · exact raisePoint_hushed ho s p
  · exact (ho _ _).after <| (unsilence_hushed ..).after (setPoint_hushed (by exact id))
  · exact (toldNormal_hushed ..).after <| (ho _ _).after (setPoint_hushed (by exact id))
  · exact .refl s

theorem pointInput_hushed {off : Offer} (ho : off.Hushes) (s : State) (p : PointNo) (i : Input) (ql : Quality) :
    Hushed s (pointInput off s p i ql) := by
  have judged : Hushed s (s.setPoint p { s.point p with quality := ql }) := setPoint_hushed (by exact id)
  unfold pointInput
  dsimp only
  split
  · split
    · exact judged
    · exact (stepInput_hushed ho _ p).after ((putPoint_hushed (by exact id)).after judged)
  · exact .refl s

theorem settle510_hushed (s : State) : Hushed s (settle510 s) := by
  have given (n : Nat) (s : State) : Hushed s (give510 n s) := by
    induction n generalizing s with
    | zero => exact .refl s
    | succ n ih =>
      unfold give510
      split
      · exact .refl s
      · exact (ih _).after <| (pointInput_hushed offerRecord_hushed _ 510 _ _).after (.ofApart rfl rfl rfl)
  exact given _ s

theorem offer_hushed : Offer.Hushes offer := fun s r => (offerRecord_hushed s r).trans (settle510_hushed _)

theorem handled_hushed {f : Offer → State → State} (p : PointNo) (h : ∀ off, Offer.Hushes off → Hushed s (f off s)) :
    Hushed s (handled p f s) := by
  unfold handled
  split
  · exact (h _ offerRecord_hushed).trans (settle510_hushed _)
  · exact h _ offer_hushed

theorem systemPoint_hushed (s : State) (p : PointNo) (i : Input) : Hushed s (systemPoint s p i) := by
  unfold systemPoint
  split
  · exact handled_hushed p fun _ ho => pointInput_hushed ho s p i .good
  · exact .refl s

/-! ## Acknowledgements, and the re-evaluation of attendance -/

theorem stepAck_hushed (s : State) (p : PointNo) (c : Console) (op : Nat) (override : Bool) :
    Hushed s (stepAck s p c op override) := by
  have partner : Hushed s (ackPartnerEvents c (s.point p).ackSet s) := by
    rw [ackPartnerEvents_eq]
    exact .ofApart rfl rfl rfl
  exact (unsilence_hushed ..).after ((setPoint_hushed fun _ => (acknowledged_fields ..).1).after partner)

theorem completeAck_hushed (s : State) (p : PointNo) (c : Console) (op : Nat) (override : Bool) :
    Hushed s (completeAck s p c op override) := by
  refine handled_hushed p fun off ho => ?_
  have stepped := (ho _ (ackRecord (stepAck s p c op override) p c op override)).after (stepAck_hushed s p c op override)
  unfold completeAckWith
  dsimp only
  split
  · exact (toldNormal_hushed ..).after stepped
  · exact stepped

theorem resolvePoint_hushed (set : AreaSet) (c : Console) (op : Nat) (t : AckTally) (p : PointNo) :
    Hushed t.state (resolvePoint set c op t p).state := by
  unfold resolvePoint
  dsimp only
  split
  · exact completeAck_hushed ..
  · exact .refl _

theorem resolveAckSets_hushed (set : AreaSet) (c : Console) (op : Nat) (s : State) :
    Hushed s (resolveAckSets set c op s).state := by
  have visits (l : List PointNo) (t : AckTally) : Hushed t.state (l.foldl (resolvePoint set c op) t).state := by
    induction l generalizing t with
    | nil => exact .refl _
    | cons p l ih => exact (resolvePoint_hushed set c op t p).trans (ih _)
  refine Hushed.after (Hushed.ofPoints _ fun p empty => ?_) (visits (List.finRange 512) ⟨s, 0, 0⟩)
  rw [mapTable_getElem]
  split
  · rfl
  · exact empty

theorem setAttendance_hushed (s : State) (a : AreaNo) (x : Attendance) : Hushed s (s.setAttendance a x) :=
  setArea_hushed (by rfl)

theorem endEscalation_hushed (s : State) (a : AreaNo) : Hushed s (endEscalation s a) := by
  have ended : Hushed s (afterEscalation s a) :=
    Hushed.trans (setAttendance_hushed s a .attended) (.ofApart rfl rfl rfl)
  rw [endEscalation_eq]
  split
  · exact ended
  · exact (systemPoint_hushed ..).after ended

theorem reevaluate_hushed (s : State) (a : AreaNo) : Hushed s (reevaluate s a) := by
  unfold reevaluate
  split
  · exact setAttendance_hushed ..
  · exact setAttendance_hushed ..
  · exact endEscalation_hushed ..
  · exact .refl s

theorem reevaluateAll_hushed (s : State) (l : List AreaNo) : Hushed s (reevaluateAll s l) :=
  Hushed.foldl reevaluate_hushed l s

end Sys2Proof.Machine
end

section
/-! Scopes and attendance through a re-evaluation: R4, R6, R117, R124. -/

namespace Sys2Proof.Machine

variable {s t : State}

/-! ## What an effect that keeps the state leaves of the attendance test and the scopes -/

theorem Kept.qualifiedAt_eq (k : Kept s t) (d : Console) (a : AreaNo) : t.qualifiedAt d a = s.qualifiedAt d a := by
  have cls : (t.area a).reqClass = (s.area a).reqClass := by
    have cfg := congrArg Area.reqClass (k.areas a)
    exact cfg
  rw [State.qualifiedAt, State.qualifiedAt, State.operatorAt, State.operatorAt, State.desk, State.desk, k.roster, k.desks,
    cls]

theorem Kept.core_eq (k : Kept s t) (n : RecordNo) : (t.record n).phase = (s.record n).phase ∧
    (t.record n).inConsole = (s.record n).inConsole ∧ (t.record n).areas = (s.record n).areas := by
  have phase := congrArg HoRecord.phase (k.records n)
  have incoming := congrArg HoRecord.inConsole (k.records n)
  have areas := congrArg HoRecord.areas (k.records n)
  exact ⟨phase, incoming, areas⟩

theorem Kept.incomingIn_eq (k : Kept s t) (d : Console) (a : AreaNo) : t.incomingIn d a = s.incomingIn d a := by
  rw [Bool.eq_iff_iff, State.incomingIn_iff, State.incomingIn_iff, k.record]
  refine exists_congr fun n => and_congr_right' ?_
  obtain ⟨phase, incoming, -⟩ := k.core_eq n
  rw [phase, incoming]

/-- R5: the attendance test stands. -/
theorem Kept.attendanceTest_eq (k : Kept s t) (a : AreaNo) : attendanceTest t a = attendanceTest s a := by
  rw [Bool.eq_iff_iff, attendanceTest_iff, attendanceTest_iff, k.owner]
  simp only [k.presentAt_eq, k.qualifiedAt_eq, k.incomingIn_eq]

/-- R124: every horn scope stands as its rule has it. -/
def State.scopesRight (s : State) : Prop := ∀ d, (s.horn d).scope = hornScope s d

theorem hornScope_kept (k : Kept s t) (escalated : ∀ a, (t.area a).isEscalated = (s.area a).isEscalated) (d : Console) :
    hornScope t d = hornScope s d := by
  unfold hornScope
  simp only [k.owner, k.incomingIn_eq, escalated]

theorem Sequenced.scopesRight (k : Sequenced s t) (right : s.scopesRight) : t.scopesRight := by
  intro d
  rw [k.scope, right, hornScope_kept k.toKept fun a => ?_]
  rw [Area.isEscalated, Area.isEscalated, k.attendance]

theorem recomputeScopes_scopesRight (s : State) : (recomputeScopes s).scopesRight := by
  intro d
  rw [horn_recomputeScopes]
  rfl

/-! ## One area re-evaluated -/

theorem endEscalation_scopesRight (s : State) (a : AreaNo) : (endEscalation s a).scopesRight := by
  have right : (afterEscalation s a).scopesRight :=
    ((setFlag_seq ..).trans (setFlag_seq ..)).scopesRight (recomputeScopes_scopesRight (s.setAttendance a .attended))
  rw [endEscalation_eq]
  split
  · exact right
  · exact (systemPoint_seq ..).scopesRight right

/-- R4: an attendance that neither begins nor ends an escalation leaves the scopes right. -/
theorem setAttendance_scopesRight {a : AreaNo} {x : Attendance} (was : (s.area a).isEscalated = false)
    (now : ({ s.area a with attendance := x } : Area).isEscalated = false) (right : s.scopesRight) :
    (s.setAttendance a x).scopesRight := by
  intro d
  refine (right d).trans (hornScope_kept (setAttendance_kept ..) (fun b => ?_) d).symm
  rw [State.setAttendance, State.area_setArea]
  split
  · next same => subst same; rw [now, was]
  · rfl

theorem reevaluate_scopesRight (a : AreaNo) (right : s.scopesRight) : (reevaluate s a).scopesRight := by
  unfold reevaluate
  split
  case h_1 held _ => exact setAttendance_scopesRight (by rw [Area.isEscalated, held]) rfl right
  case h_2 held _ => exact setAttendance_scopesRight (by rw [Area.isEscalated, held]) rfl right
  case h_3 => exact endEscalation_scopesRight s a
  case h_4 => exact right

theorem reevaluateAll_scopesRight (l : List AreaNo) (right : s.scopesRight) : (reevaluateAll s l).scopesRight := by
  induction l generalizing s with
  | nil => exact right
  | cons a l ih => exact ih (reevaluate_scopesRight a right)

/-! ## Areas re-evaluated in turn (R6) -/

/-- R4: the attendance that the table gives an area. -/
def tableAttendance (s : State) (a : AreaNo) : Attendance :=
  match (s.area a).attendance, attendanceTest s a with
  | .attended, true => .attended
  | .attended, false => .unattended s.time.runClock
  | .unattended _, true => .attended
  | .unattended u, false => .unattended u
  | .escalated _, true => .attended
  | .escalated u, false => .escalated u

theorem attendance_reevaluate_table (s : State) (a b : AreaNo) :
    ((reevaluate s a).area b).attendance = if a = b then tableAttendance s a else (s.area b).attendance :=
  attendance_reevaluate s a b

theorem tableAttendance_congr (k : Kept s t) {a : AreaNo} (same : (t.area a).attendance = (s.area a).attendance) :
    tableAttendance t a = tableAttendance s a := by
  unfold tableAttendance
  rw [same, k.attendanceTest_eq, k.time]

theorem attendance_reevaluateAll (s : State) {l : List AreaNo} (once : l.Nodup) (b : AreaNo) :
    ((reevaluateAll s l).area b).attendance = if b ∈ l then tableAttendance s b else (s.area b).attendance := by
  induction l generalizing s with
  | nil => rfl
  | cons a l ih =>
    obtain ⟨fresh, once⟩ := List.nodup_cons.mp once
    refine (ih (reevaluate s a) once).trans ?_
    by_cases here : a = b
    · subst here
      rw [if_neg fresh, if_pos (List.mem_cons_self ..), attendance_reevaluate_table, if_pos rfl]
    · have still : ((reevaluate s a).area b).attendance = (s.area b).attendance := by
        rw [attendance_reevaluate_table, if_neg here]
      rw [still, tableAttendance_congr (reevaluate_kept s a) still]
      exact if_congr (by rw [List.mem_cons, or_iff_right (Ne.symm here)]) rfl rfl

/-- R169: a flag set stays set through an effect that keeps the state. -/
theorem Kept.flag_stays (k : Kept s t) {f : EventFlag} {d : Console} (set : (s.port d).flags &&& f.bit = f.bit) :
    (t.port d).flags &&& f.bit = f.bit := by
  have grown := (k.ports d).flags
  refine BitVec.eq_of_getLsbD_eq fun i _ => ?_
  have hs := congrArg (·.getLsbD i) set
  have hg := congrArg (·.getLsbD i) grown
  simp only [BitVec.getLsbD_and] at hs hg ⊢
  cases bit : f.bit.getLsbD i
  · exact Bool.and_false _
  · rw [bit, Bool.and_true] at hs
    rw [hs, Bool.true_and] at hg
    rw [hg]
    rfl

theorem setFlag_sets (f : EventFlag) (s : State) (c : Console) : ((setFlag f s c).port c).flags &&& f.bit = f.bit := by
  rw [port_setFlag, if_pos rfl, Port.raised]
  refine BitVec.eq_of_getLsbD_eq fun i _ => ?_
  simp only [BitVec.getLsbD_and, BitVec.getLsbD_or]
  cases f.bit.getLsbD i <;> simp

/-- R117: PRESENCE at console 0 and at the owner, where a re-evaluation ends an escalation. -/
theorem presence_reevaluate {a : AreaNo} {u : Word32} (escalated : (s.area a).attendance = .escalated u)
    (test : attendanceTest s a = true) :
    ((reevaluate s a).port 0).flags &&& EventFlag.presence.bit = EventFlag.presence.bit ∧
    ((reevaluate s a).port (s.area a).owner).flags &&& EventFlag.presence.bit = EventFlag.presence.bit := by
  have ends : reevaluate s a = endEscalation s a := by
    unfold reevaluate
    rw [escalated, test]
  have kept : Kept (afterEscalation s a) (endEscalation s a) := by
    rw [endEscalation_eq]
    split
    · exact .refl _
    · exact systemPoint_keeps ..
  rw [ends]
  refine ⟨kept.flag_stays ((setFlag_keeps ..).flag_stays (setFlag_sets ..)), kept.flag_stays (setFlag_sets ..)⟩

theorem presence_reevaluateAll {l : List AreaNo} (once : l.Nodup) {a : AreaNo} (inside : a ∈ l) {u : Word32}
    (escalated : (s.area a).attendance = .escalated u) (test : attendanceTest s a = true) :
    ((reevaluateAll s l).port 0).flags &&& EventFlag.presence.bit = EventFlag.presence.bit ∧
    ((reevaluateAll s l).port (s.area a).owner).flags &&& EventFlag.presence.bit = EventFlag.presence.bit := by
  induction l generalizing s with
  | nil => exact absurd inside (List.not_mem_nil)
  | cons b l ih =>
    obtain ⟨fresh, once⟩ := List.nodup_cons.mp once
    by_cases here : b = a
    · subst here
      obtain ⟨lead, own⟩ := presence_reevaluate escalated test
      have rest := reevaluateAll_kept (reevaluate s b) l
      exact ⟨rest.flag_stays lead, rest.flag_stays own⟩
    · have k := reevaluate_kept s b
      have still : ((reevaluate s b).area a).attendance = (s.area a).attendance := by
        rw [attendance_reevaluate_table, if_neg here]
      have later := ih once ((List.mem_cons.mp inside).resolve_left (Ne.symm here)) (still.trans escalated)
        ((k.attendanceTest_eq a).trans test)
      rw [k.owner] at later
      exact later

end Sys2Proof.Machine
end

section
/-! The resolution of ack sets in a journal with room: R34, R103. -/

namespace Sys2Proof.Machine

variable {s t : State} {set : AreaSet} {c : Console} {op : Nat}

/-! ## Points but for their first marks -/

/-- A point with its first mark left out, which a rearm may clear. -/
def Point.unmarked (q : Point) : Point := { q with firstMark := none }

theorem SameButMarks.unmarked (h : SameButMarks s t) (p : PointNo) : (t.point p).unmarked = (s.point p).unmarked := by
  rw [← h.points p]
  rfl

theorem acknowledge_unmarked {q q' : Point} (same : q'.unmarked = q.unmarked) (info : AckInfo) :
    (q'.acknowledge info).unmarked = (q.acknowledge info).unmarked := by
  have through (x : Point) : (x.acknowledge info).unmarked = (x.unmarked.acknowledge info).unmarked := by
    unfold Point.acknowledge Point.unmarked
    dsimp only
    split <;> rfl
  rw [through, through q, same]

/-! ## One acknowledgement of the resolution -/

/-- R103: a point of a record's areas whose ack set holds the survivor. -/
def dueFor (set : AreaSet) (c : Console) (q : Point) : Bool :=
  q.configured && inSet q.area set && q.unacknowledged && q.ackSet.contains c

theorem dueFor_congr {q q' : Point} (same : q'.unmarked = q.unmarked) (set : AreaSet) (c : Console) :
    dueFor set c q' = dueFor set c q := by
  have through (x : Point) : dueFor set c x = dueFor set c x.unmarked := rfl
  rw [through, through q, same]

/-- R34: the state that an acknowledgement brings a point to. -/
def Point.ackReached (q : Point) : Annunciation := if q.state = .raised then .standing else .normal

theorem ackReached_congr {q q' : Point} (same : q'.unmarked = q.unmarked) : q'.ackReached = q.ackReached := by
  have through (x : Point) : x.ackReached = x.unmarked.ackReached := rfl
  rw [through, through q, same]

/-- R34: the ACK record of the resolution. -/
def resolvedRecord (s : State) (c : Console) (op : Nat) (p : PointNo) : JournalRecord :=
  journalRecord s .ack .accountable p c 0#6 op (value12 (s.point p).ackReached.code)

theorem completeAck_apart (calm : s.calm 1) (p : PointNo) (override : Bool) :
    SameButMarks (ackStepped s p c op override) (completeAck s p c op override) := by
  rw [completeAck_calm calm]
  split
  · exact toldNormal_sameButMarks ..
  · exact .refl _

theorem completeAck_takes (calm : s.calm 1) (p : PointNo) :
    Takes s (completeAck s p c op false) [resolvedRecord s c op p] := by
  have rest := (completeAck_apart (c := c) (op := op) calm p false).rest
  rw [rest]
  refine .one ?_
  change s.journal.accept _ = _
  rw [acknowledged_state]
  rfl

theorem point_completeAck (calm : s.calm 1) (p x : PointNo) : ((completeAck s p c op false).point x).unmarked =
    if p = x then (acknowledged s p c op false).unmarked else (s.point x).unmarked := by
  rw [(completeAck_apart calm p false).unmarked, ackStepped_point]
  exact apply_ite Point.unmarked ..

theorem resolvePoint_rests {p : PointNo} {t : AckTally} (rests : dueFor set c (t.state.point p) = false) :
    resolvePoint set c op t p = t := by
  refine if_neg ?_
  unfold dueFor at rests
  rw [rests]
  exact Bool.false_ne_true

theorem resolvePoint_due {p : PointNo} {t : AckTally} (due : dueFor set c (t.state.point p) = true) :
    resolvePoint set c op t p =
      { t with state := completeAck t.state p c op false, completed := t.completed + 1 } :=
  if_pos due

/-! ## The visits in turn -/

/-- R103: the points of a list that the resolution completes. -/
def dueIn (s : State) (set : AreaSet) (c : Console) (l : List PointNo) : List PointNo :=
  l.filter fun p => dueFor set c (s.point p)

/-- R103: what a run of the resolution over points makes of a tally. -/
structure Resolves (set : AreaSet) (c : Console) (op : Nat) (l : List PointNo) (t t' : AckTally) : Prop where
  completed : t'.completed = t.completed + (dueIn t.state set c l).length
  takes : Takes t.state t'.state ((dueIn t.state set c l).map (resolvedRecord t.state c op))
  points : ∀ x, (t'.state.point x).unmarked = if x ∈ dueIn t.state set c l
    then (acknowledged t.state x c op false).unmarked else (t.state.point x).unmarked

theorem resolvedRecord_congr (time : t.time = s.time) {p : PointNo}
    (same : (t.point p).unmarked = (s.point p).unmarked) : resolvedRecord t c op p = resolvedRecord s c op p := by
  unfold resolvedRecord
  rw [ackReached_congr same]
  exact journalRecord_congr time ..

theorem acknowledged_congr (time : t.time = s.time) {p : PointNo}
    (same : (t.point p).unmarked = (s.point p).unmarked) :
    (acknowledged t p c op false).unmarked = (acknowledged s p c op false).unmarked := by
  have clock : t.journalClock = s.journalClock := by rw [State.journalClock, State.journalClock, time]
  rw [acknowledged, acknowledged, clock]
  exact acknowledge_unmarked same _

theorem resolves (op : Nat) {l : List PointNo} (once : l.Nodup) (t : AckTally)
    (calm : t.state.calm (dueIn t.state set c l).length) : Resolves set c op l t (l.foldl (resolvePoint set c op) t) := by
  induction l generalizing t with
  | nil => exact ⟨rfl, .none rfl, fun _ => rfl⟩
  | cons p l ih =>
    obtain ⟨fresh, once⟩ := List.nodup_cons.mp once
    rw [List.foldl_cons]
    cases due : dueFor set c (t.state.point p) with
    | false =>
      have same : dueIn t.state set c (p :: l) = dueIn t.state set c l := List.filter_cons_of_neg (by rw [due]; decide)
      rw [resolvePoint_rests due]
      rw [same] at calm
      obtain ⟨completed, takes, points⟩ := ih once t calm
      exact ⟨by rw [same]; exact completed, by rw [same]; exact takes, by rw [same]; exact points⟩
    | true =>
      have first : dueIn t.state set c (p :: l) = p :: dueIn t.state set c l := List.filter_cons_of_pos due
      rw [first, List.length_cons] at calm
      have calm1 : t.state.calm 1 := (Takes.none rfl).calm (by simp) calm
      let t1 : AckTally := { t with state := completeAck t.state p c op false, completed := t.completed + 1 }
      have took : Takes t.state t1.state [resolvedRecord t.state c op p] := completeAck_takes calm1 p
      have time : t1.state.time = t.state.time := (completeAck_seq ..).time
      have others {x : PointNo} (other : p ≠ x) : (t1.state.point x).unmarked = (t.state.point x).unmarked := by
        rw [point_completeAck calm1, if_neg other]
      have later : dueIn t1.state set c l = dueIn t.state set c l :=
        List.filter_congr fun x inside => dueFor_congr (others fun e => fresh (e ▸ inside)) set c
      have calm2 : t1.state.calm (dueIn t1.state set c l).length := by
        rw [later]
        exact took.calm (by simp [Nat.add_comm]) calm
      obtain ⟨completed, takes, points⟩ := ih once t1 calm2
      rw [resolvePoint_due due]
      refine ⟨?_, ?_, fun x => ?_⟩
      · rw [completed, later, first, List.length_cons]
        exact Nat.add_right_comm ..
      · rw [first, List.map_cons]
        have records : (dueIn t1.state set c l).map (resolvedRecord t1.state c op) =
            (dueIn t.state set c l).map (resolvedRecord t.state c op) := by
          rw [later]
          exact List.map_congr_left fun x inside => resolvedRecord_congr time
            (others fun e => fresh (e ▸ List.mem_of_mem_filter inside))
        rw [records] at takes
        exact took.then takes
      · rw [points, later, first]
        by_cases here : p = x
        · subst here
          have past : p ∉ dueIn t.state set c l := fun inside => fresh (List.mem_of_mem_filter inside)
          rw [if_neg past, if_pos (List.mem_cons_self ..), point_completeAck calm1, if_pos rfl]
        · rw [others here, acknowledged_congr time (others here)]
          exact if_congr (by rw [List.mem_cons, or_iff_right (Ne.symm here)]) rfl rfl

/-! ## The resolution whole (R103) -/

/-- A point with its first mark and its ack set left out. -/
def Point.bare (q : Point) : Point := { q with firstMark := none, ackSet := [] }

theorem bare_of_unmarked {q q' : Point} (same : q'.unmarked = q.unmarked) : q'.bare = q.bare := by
  have through (x : Point) : x.bare = x.unmarked.bare := rfl
  rw [through, through q, same]

/-- R103: every ack set of a set of areas emptied. -/
def emptyAckSets (set : AreaSet) (s : State) : State :=
  { s with points := mapTable (fun q => if q.configured && inSet q.area set then { q with ackSet := [] } else q) s.points }

theorem point_emptyAckSets (set : AreaSet) (s : State) (p : PointNo) : (emptyAckSets set s).point p =
    if ((s.point p).configured && inSet (s.point p).area set) = true then { s.point p with ackSet := [] } else s.point p :=
  mapTable_getElem ..

theorem bare_emptyAckSets (set : AreaSet) (s : State) (p : PointNo) :
    ((emptyAckSets set s).point p).bare = (s.point p).bare := by
  rw [point_emptyAckSets]
  split <;> rfl

/-- R103: the resolution over the points of a list. -/
def resolveOver (set : AreaSet) (c : Console) (op : Nat) (l : List PointNo) (s : State) : AckTally :=
  let t := l.foldl (resolvePoint set c op) { state := s, completed := 0, recorded := 0 }
  { t with state := emptyAckSets set t.state }

theorem resolveAckSets_eq (set : AreaSet) (c : Console) (op : Nat) (s : State) :
    resolveAckSets set c op s = resolveOver set c op (List.finRange 512) s := rfl

theorem resolveOver_calm {l : List PointNo} (once : l.Nodup) (calm : s.calm (dueIn s set c l).length) (op : Nat) :
    (resolveOver set c op l s).completed = (dueIn s set c l).length ∧
    Takes s (resolveOver set c op l s).state ((dueIn s set c l).map (resolvedRecord s c op)) ∧
    ∀ x, ((resolveOver set c op l s).state.point x).bare = if x ∈ dueIn s set c l
      then (acknowledged s x c op false).bare else (s.point x).bare := by
  obtain ⟨completed, takes, points⟩ := resolves op once ⟨s, 0, 0⟩ calm
  refine ⟨completed.trans (Nat.zero_add _), ⟨takes.fifo, takes.pending, takes.events⟩, fun x => ?_⟩
  refine (bare_emptyAckSets ..).trans ?_
  by_cases inside : x ∈ dueIn s set c l
  · rw [if_pos inside]
    exact bare_of_unmarked ((points x).trans (if_pos inside))
  · rw [if_neg inside]
    exact bare_of_unmarked ((points x).trans (if_neg inside))

theorem resolveOver_empties {p : PointNo} (configured : (s.point p).configured = true)
    (inside : inSet (s.point p).area set = true) (c : Console) (op : Nat) (l : List PointNo) :
    ((resolveOver set c op l s).state.point p).ackSet = [] := by
  have cfg := (tally_seq (resolvePoint_seq set c op) l ⟨s, 0, 0⟩).points p
  unfold resolveOver
  generalize l.foldl (resolvePoint set c op) ⟨s, 0, 0⟩ = run at cfg ⊢
  have configured' := congrArg Point.configured cfg
  have area := congrArg Point.area cfg
  change (run.state.point p).configured = (s.point p).configured at configured'
  change (run.state.point p).area = (s.point p).area at area
  dsimp only
  rw [point_emptyAckSets, configured', area, configured, inside]
  rfl

end Sys2Proof.Machine
end

section
/-! A re-evaluation in a journal with room: R29, R32, R33, R117. -/

namespace Sys2Proof.Machine

variable {s t u : State}

/-! ## A point returned to normal -/

/-- R33, R117: what an effect that may return one point takes into a journal with room: at most its RETURN record. -/
structure MayReturn (p : PointNo) (s t : State) (l : List JournalRecord) : Prop where
  takes : Takes s t l
  brief : l.length ≤ 1
  records : ∀ z ∈ l, z.kind = .pointReturn ∧ z.subject = BitVec.ofNat 16 p
  points : ∀ x, x ≠ p → (t.point x).unmarked = (s.point x).unmarked

variable {p : PointNo} {l : List JournalRecord}

/-- An effect on neither the journal nor the other points. -/
theorem MayReturn.none (journal : t.journal = s.journal) (points : ∀ x, x ≠ p → t.point x = s.point x) :
    MayReturn p s t [] :=
  ⟨.none journal, Nat.zero_le 1, nofun, fun x other => by rw [points x other]⟩

theorem MayReturn.one {r : JournalRecord} (journal : t.journal = s.journal.accept r) (kind : r.kind = .pointReturn)
    (subject : r.subject = BitVec.ofNat 16 p) (points : ∀ x, x ≠ p → (t.point x).unmarked = (s.point x).unmarked) :
    MayReturn p s t [r] :=
  ⟨.one journal, Nat.le_refl 1, fun z inside => by obtain rfl := List.mem_singleton.mp inside; exact ⟨kind, subject⟩, points⟩

theorem MayReturn.after (h : MayReturn p t u l) (journal : t.journal = s.journal) (points : t.points = s.points) :
    MayReturn p s u l where
  takes := by
    have before : Takes s t [] := .none journal
    exact before.then h.takes
  brief := h.brief
  records := h.records
  points x other := (h.points x other).trans (by rw [State.point, points, State.point])

theorem stepInput_normal_rests (off : Offer) (normal : (s.point p).input = .normal)
    (state : (s.point p).state ≠ .raised ∧ (s.point p).state ≠ .standing) : stepInput off s p = s := by
  obtain ⟨notRaised, notStanding⟩ := state
  unfold stepInput
  dsimp only
  rw [normal]
  cases h : (s.point p).state
  case raised => exact absurd h notRaised
  case standing => exact absurd h notStanding
  all_goals rfl

/-- R29, R32, R33: a report of NORMAL, in a journal with room. -/
theorem pointInput_normal_calm (calm : s.calm 1) (p : PointNo) (ql : Quality) :
    ∃ l, MayReturn p s (pointInput offer s p .normal ql) l := by
  have other (q : Point) (x : PointNo) (h : x ≠ p) : (s.setPoint p q).point x = s.point x := by
    rw [State.point_setPoint, if_neg (Ne.symm h)]
  have journal (q : Point) : (s.setPoint p q).journal = s.journal := by rw [State.setPoint_eq]
  by_cases configured : (s.point p).configured = true
  swap
  · rw [pointInput_unconfigured offer (Bool.eq_false_iff.mpr configured)]
    exact ⟨[], .none rfl fun _ _ => rfl⟩
  cases was : (s.point p).input with
  | normal =>
    have same := pointInput_same offer configured ql
    rw [was] at same
    rw [same]
    exact ⟨[], .none (journal _) (other _)⟩
  | active =>
    by_cases raised : (s.point p).state = .raised
    · rw [pointInput_returns configured was raised calm]
      refine ⟨_, .one rfl rfl rfl fun x h => congrArg Point.unmarked ?_⟩
      exact (State.point_putPoint ..).trans (if_neg (Ne.symm h))
    · by_cases standing : (s.point p).state = .standing
      · rw [pointInput_ends configured was standing calm]
        have apart := toldNormal_sameButMarks (returnedNormal s p ql) p
        refine ⟨_, .one (by rw [apart.rest]; rfl) rfl rfl fun x h => (apart.unmarked x).trans ?_⟩
        rw [point_returnedNormal, if_neg (Ne.symm h)]
      · rw [pointInput_changed offer configured (by rw [was]; decide), stepInput_normal_rests]
        · exact ⟨[], .none (journal _) (other _)⟩
        · rw [State.point_setPoint_same]
        · rw [State.point_setPoint_same]
          exact ⟨raised, standing⟩

theorem systemPoint508_calm (calm : s.calm 1) : ∃ l, MayReturn 508 s (systemPoint s 508 .normal) l := by
  cases mode : s.mode with
  | configuring =>
    rw [systemPoint_configuring mode]
    exact ⟨[], .none rfl fun _ _ => rfl⟩
  | inService =>
    rw [systemPoint_service mode, handled, if_neg (by decide)]
    exact pointInput_normal_calm calm 508 .good

/-! ## One area re-evaluated -/

/-- R4: no area is ESCALATED. -/
def State.noneEscalated (s : State) : Prop := ∀ b v, (s.area b).attendance ≠ .escalated v

theorem anyEscalated_false (h : ¬ s.anyEscalated = true) : s.noneEscalated := fun b v escalated =>
  h ((anyEscalated_iff s).mpr ⟨b, v, escalated⟩)

theorem endEscalation_calm (calm : s.calm 1) (a : AreaNo) : ∃ l, MayReturn 508 s (endEscalation s a) l ∧
    (l = [] ∨ (endEscalation s a).noneEscalated) := by
  rw [endEscalation_eq]
  split
  · exact ⟨[], .none rfl fun _ _ => rfl, .inl rfl⟩
  · next none' =>
    obtain ⟨l, returns⟩ := systemPoint508_calm (s := afterEscalation s a) calm
    refine ⟨l, returns.after rfl rfl, .inr fun b v => ?_⟩
    rw [(systemPoint_seq ..).attendance]
    exact anyEscalated_false none' b v

theorem reevaluate_unescalated {a : AreaNo} (rests : ∀ v, (s.area a).attendance ≠ .escalated v) :
    ∃ areas, reevaluate s a = { s with areas := areas } := by
  unfold reevaluate
  split
  case h_1 => exact ⟨_, rfl⟩
  case h_2 => exact ⟨_, rfl⟩
  case h_3 held _ => exact absurd held (rests _)
  case h_4 => exact ⟨s.areas, rfl⟩

/-- R4: a re-evaluation begins no escalation. -/
theorem escalated_before {a b : AreaNo} {v : Word32} (after' : ((reevaluate s a).area b).attendance = .escalated v) :
    (s.area b).attendance = .escalated v := by
  rw [attendance_reevaluate_table] at after'
  split at after'
  · next same =>
    subst same
    unfold tableAttendance at after'
    split at after'
    case h_6 held _ => rw [held, after']
    all_goals exact Attendance.noConfusion after'
  · exact after'

theorem reevaluate_calm (calm : s.calm 1) (a : AreaNo) : ∃ l, MayReturn 508 s (reevaluate s a) l ∧
    (l = [] ∨ (reevaluate s a).noneEscalated) ∧ ((∀ v, (s.area a).attendance ≠ .escalated v) → l = []) := by
  by_cases rests : ∀ v, (s.area a).attendance ≠ .escalated v
  · obtain ⟨areas, still⟩ := reevaluate_unescalated rests
    rw [still]
    exact ⟨[], .none rfl fun _ _ => rfl, .inl rfl, fun _ => rfl⟩
  · by_cases ends : attendanceTest s a = true
    · have escalated : reevaluate s a = endEscalation s a := by
        push Not at rests
        obtain ⟨v, held⟩ := rests
        unfold reevaluate
        rw [held, ends]
      obtain ⟨l, returns, last⟩ := endEscalation_calm calm a
      rw [escalated]
      exact ⟨l, returns, last, fun h => absurd h rests⟩
    · have still : reevaluate s a = s := by
        push Not at rests
        obtain ⟨v, held⟩ := rests
        unfold reevaluate
        rw [held, Bool.eq_false_iff.mpr ends]
      rw [still]
      exact ⟨[], .none rfl fun _ _ => rfl, .inl rfl, fun _ => rfl⟩

/-! ## The areas of a record in turn (R6) -/

theorem reevaluateAll_unescalated (none' : s.noneEscalated) (areas : List AreaNo) :
    (reevaluateAll s areas).journal = s.journal ∧ (reevaluateAll s areas).points = s.points := by
  induction areas generalizing s with
  | nil => exact ⟨rfl, rfl⟩
  | cons a areas ih =>
    obtain ⟨table, still⟩ := reevaluate_unescalated (none' a)
    obtain ⟨journal, points⟩ := ih (s := reevaluate s a) fun b v escalated => none' b v (escalated_before escalated)
    refine ⟨journal.trans ?_, points.trans ?_⟩
    · rw [still]
    · rw [still]

theorem reevaluateAll_calm (calm : s.calm 1) (areas : List AreaNo) : ∃ l, MayReturn 508 s (reevaluateAll s areas) l ∧
    ((∀ a ∈ areas, ∀ v, (s.area a).attendance ≠ .escalated v) → l = []) := by
  induction areas generalizing s with
  | nil => exact ⟨[], .none rfl fun _ _ => rfl, fun _ => rfl⟩
  | cons a areas ih =>
    obtain ⟨l, first, last, rests⟩ := reevaluate_calm calm a
    rcases last with rfl | none'
    · obtain ⟨l', later, quiet⟩ := ih (first.takes.calm (Nat.le_refl 1) calm)
      refine ⟨l', ⟨first.takes.then later.takes, later.brief, later.records, fun x other => ?_⟩, fun all => quiet fun b inside v => ?_⟩
      · exact (later.points x other).trans (first.points x other)
      · exact fun escalated => all b (List.mem_cons_of_mem a inside) v (escalated_before escalated)
    · obtain ⟨journal, points⟩ := reevaluateAll_unescalated none' areas
      have nothing : Takes (reevaluate s a) (reevaluateAll (reevaluate s a) areas) [] := .none journal
      have takes := first.takes.then nothing
      rw [List.append_nil] at takes
      refine ⟨l, ⟨takes, first.brief, first.records, fun x other => ?_⟩, fun all => rests (all a (List.mem_cons_self ..))⟩
      refine Eq.trans ?_ (first.points x other)
      change ((reevaluateAll (reevaluate s a) areas).point x).unmarked = _
      rw [State.point, points, State.point]

end Sys2Proof.Machine
end

section
/-! The end of a record, stage by stage: R85, R102 to R104, R109. -/

namespace Sys2Proof.Machine

variable {s t : State} {n : RecordNo} {o : HoOutcome} {k : HoCause} {c : Console} {op : Nat}

theorem HoOutcome.isCommit_iff (o : HoOutcome) : o.isCommit = true ↔ o = .committed ∨ o = .superseded := by
  cases o <;> decide

/-! ## The stages (R102, R104) -/

/-- R102: the owner that an end of a record gives its areas. -/
def newOwner (h : HoRecord) (o : HoOutcome) : Option Console := if o.isCommit then h.inConsole else none

/-- R102, R104: an end's state once the areas are released. -/
def releasedAt (s : State) (n : RecordNo) (o : HoOutcome) : State :=
  releaseAreas (s.record n).areas (newOwner (s.record n) o) s

/-- R103: an end's resolution of the ack sets. -/
def resolvedAt (s : State) (n : RecordNo) (o : HoOutcome) : AckTally :=
  resolveAckSets (s.record n).areas (survivor (s.record n) o).1 (survivor (s.record n) o).2 (releasedAt s n o)

/-- R104: an end's state once the scopes are recomputed. -/
def rescopedAt (s : State) (n : RecordNo) (o : HoOutcome) : State := recomputeScopes (resolvedAt s n o).state

/-- R104: an end's state once attendance is re-evaluated. -/
def reevaluatedAt (s : State) (n : RecordNo) (o : HoOutcome) : State :=
  reevaluateAll (rescopedAt s n o) (members (s.record n).areas)

/-- R109: an end's state once its record is offered. -/
def journaledAt (s : State) (n : RecordNo) (o : HoOutcome) (k : HoCause) (c : Console) (op : Nat) : State :=
  offer (reevaluatedAt s n o)
    (journalRecord (reevaluatedAt s n o) .hoEnd .accountable n c 0#6 op (endValue o k (s.record n).areas))

/-- R85: an end's state once the record is FREE. -/
def freedAt (s : State) (n : RecordNo) (o : HoOutcome) (k : HoCause) (c : Console) (op : Nat) : State :=
  (journaledAt s n o k c op).setRecord n (((journaledAt s n o k c op).record n).ended o k)

/-- R102, R104: what an end leaves, from its resolution of the ack sets. -/
def endFrom (s : State) (n : RecordNo) (o : HoOutcome) (k : HoCause) (c : Console) (op : Nat) (t : AckTally) :
    RecordEnd :=
  let s3 := reevaluateAll (recomputeScopes t.state) (members (s.record n).areas)
  let s4 := offer s3 (journalRecord s3 .hoEnd .accountable n c 0#6 op (endValue o k (s.record n).areas))
  { state := setFlagParty .handover (s.record n).inConsole
      (setFlagParty .handover (s.record n).outConsole (s4.setRecord n ((s4.record n).ended o k)))
    changed :=
      countAreas (fun a => (newOwner (s.record n) o).any (· != (s.area a).owner)) (members (s.record n).areas)
    completed := t.completed }

theorem endRecord_eq (s : State) (n : RecordNo) (o : HoOutcome) (k : HoCause) (c : Console) (op : Nat) :
    endRecord s n o k c op = endFrom s n o k c op (resolvedAt s n o) := by
  unfold endRecord endFrom resolvedAt releasedAt newOwner
  dsimp only

theorem endFrom_completed (s : State) (n : RecordNo) (o : HoOutcome) (k : HoCause) (c : Console) (op : Nat)
    (t : AckTally) : (endFrom s n o k c op t).completed = t.completed := rfl

theorem endFrom_changed (s : State) (n : RecordNo) (o : HoOutcome) (k : HoCause) (c : Console) (op : Nat)
    (t : AckTally) : (endFrom s n o k c op t).changed = countAreas
      (fun a => (newOwner (s.record n) o).any (· != (s.area a).owner)) (members (s.record n).areas) := rfl

theorem endRecord_state (s : State) (n : RecordNo) (o : HoOutcome) (k : HoCause) (c : Console) (op : Nat) :
    (endRecord s n o k c op).state = setFlagParty .handover (s.record n).inConsole
      (setFlagParty .handover (s.record n).outConsole (freedAt s n o k c op)) := by
  rw [endRecord_eq]
  unfold endFrom freedAt journaledAt reevaluatedAt rescopedAt
  dsimp only

theorem endRecord_completed (s : State) (n : RecordNo) (o : HoOutcome) (k : HoCause) (c : Console) (op : Nat) :
    (endRecord s n o k c op).completed = (resolvedAt s n o).completed := by
  rw [endRecord_eq, endFrom_completed]

theorem endRecord_changed (s : State) (n : RecordNo) (o : HoOutcome) (k : HoCause) (c : Console) (op : Nat) :
    (endRecord s n o k c op).changed =
      countAreas (fun a => (newOwner (s.record n) o).any (· != (s.area a).owner)) (members (s.record n).areas) := by
  rw [endRecord_eq, endFrom_changed]

/-! ## What each stage keeps -/

theorem releasedAt_eq (s : State) (n : RecordNo) (o : HoOutcome) :
    releasedAt s n o = { s with areas := (releasedAt s n o).areas } := releaseAreas_eq ..

theorem area_releasedAt (s : State) (n : RecordNo) (o : HoOutcome) (a : AreaNo) : (releasedAt s n o).area a =
    if inSet a (s.record n).areas
    then { s.area a with record := none, owner := (newOwner (s.record n) o).getD (s.area a).owner } else s.area a :=
  area_releaseAreas ..

theorem attendance_releasedAt (s : State) (n : RecordNo) (o : HoOutcome) (a : AreaNo) :
    ((releasedAt s n o).area a).attendance = (s.area a).attendance := by
  rw [area_releasedAt]
  split <;> rfl

theorem point_releasedAt (s : State) (n : RecordNo) (o : HoOutcome) (p : PointNo) :
    (releasedAt s n o).point p = s.point p := by
  rw [releasedAt_eq]
  rfl

theorem resolvedAt_seq (s : State) (n : RecordNo) (o : HoOutcome) :
    Sequenced (releasedAt s n o) (resolvedAt s n o).state := resolveAckSets_seq ..

theorem rescopedAt_kept (s : State) (n : RecordNo) (o : HoOutcome) : Kept (releasedAt s n o) (rescopedAt s n o) :=
  (recomputeScopes_kept _).after (resolvedAt_seq s n o).toKept

theorem area_recomputeScopes (s : State) (a : AreaNo) : (recomputeScopes s).area a = s.area a := rfl

theorem recomputeScopes_hushed (s : State) : Hushed s (recomputeScopes s) := .ofApart rfl rfl rfl

theorem attendance_rescopedAt (s : State) (n : RecordNo) (o : HoOutcome) (a : AreaNo) :
    ((rescopedAt s n o).area a).attendance = (s.area a).attendance :=
  (congrArg Area.attendance (area_recomputeScopes _ a)).trans
    (((resolvedAt_seq s n o).attendance a).trans (attendance_releasedAt s n o a))

theorem journaledAt_seq (s : State) (n : RecordNo) (o : HoOutcome) (k : HoCause) (c : Console) (op : Nat) :
    Sequenced (reevaluatedAt s n o) (journaledAt s n o k c op) := offer_seq ..

theorem reevaluatedAt_kept (s : State) (n : RecordNo) (o : HoOutcome) :
    Kept (rescopedAt s n o) (reevaluatedAt s n o) := reevaluateAll_kept ..

theorem journaledAt_kept (s : State) (n : RecordNo) (o : HoOutcome) (k : HoCause) (c : Console) (op : Nat) :
    Kept (releasedAt s n o) (journaledAt s n o k c op) :=
  (journaledAt_seq s n o k c op).toKept.after ((reevaluatedAt_kept s n o).after (rescopedAt_kept s n o))

theorem endRecord_seq (s : State) (n : RecordNo) (o : HoOutcome) (k : HoCause) (c : Console) (op : Nat) :
    Sequenced (freedAt s n o k c op) (endRecord s n o k c op).state := by
  rw [endRecord_state]
  exact (setFlagParty_seq ..).after (setFlagParty_seq ..)

theorem setFlagParty_eq (f : EventFlag) (d : Option Console) (s : State) :
    setFlagParty f d s = { s with ports := (setFlagParty f d s).ports } := by
  cases d <;> rfl

/-- R104: the last step sets flags alone. -/
theorem endRecord_apart (s : State) (n : RecordNo) (o : HoOutcome) (k : HoCause) (c : Console) (op : Nat) :
    (endRecord s n o k c op).state = { freedAt s n o k c op with ports := (endRecord s n o k c op).state.ports } := by
  have last := setFlagParty_eq .handover (s.record n).inConsole
    (setFlagParty .handover (s.record n).outConsole (freedAt s n o k c op))
  have first := setFlagParty_eq .handover (s.record n).outConsole (freedAt s n o k c op)
  rw [endRecord_state]
  generalize freedAt s n o k c op = u at first last ⊢
  generalize setFlagParty .handover (s.record n).outConsole u = v at first last ⊢
  rw [last, first]

theorem rescopedAt_hushed (s : State) (n : RecordNo) (o : HoOutcome) :
    Hushed (releasedAt s n o) (rescopedAt s n o) :=
  (recomputeScopes_hushed _).after (resolveAckSets_hushed ..)

theorem journaledAt_hushed (s : State) (n : RecordNo) (o : HoOutcome) (k : HoCause) (c : Console) (op : Nat) :
    Hushed (rescopedAt s n o) (journaledAt s n o k c op) :=
  (offer_hushed ..).after (reevaluateAll_hushed ..)

/-! ## Owners and records -/

theorem area_freedAt (s : State) (n : RecordNo) (o : HoOutcome) (k : HoCause) (c : Console) (op : Nat) (a : AreaNo) :
    (freedAt s n o k c op).area a = (journaledAt s n o k c op).area a := rfl

/-- R3, R102: the areas of an ended record name none. -/
theorem record_ended (s : State) (n : RecordNo) (o : HoOutcome) (k : HoCause) (c : Console) (op : Nat) (a : AreaNo) :
    ((endRecord s n o k c op).state.area a).record =
      if inSet a (s.record n).areas = true then none else (s.area a).record := by
  rw [(endRecord_seq ..).record, area_freedAt, (journaledAt_kept ..).record, area_releasedAt]
  split <;> rfl

/-- R2, R102: the owners after the end of a record. -/
theorem owner_ended (s : State) (n : RecordNo) (o : HoOutcome) (k : HoCause) (c : Console) (op : Nat) (a : AreaNo) :
    ((endRecord s n o k c op).state.area a).owner =
      if inSet a (s.record n).areas = true then (newOwner (s.record n) o).getD (s.area a).owner else (s.area a).owner := by
  rw [(endRecord_seq ..).owner, area_freedAt, (journaledAt_kept ..).owner, area_releasedAt]
  split <;> rfl

theorem record_freedAt (s : State) (n : RecordNo) (o : HoOutcome) (k : HoCause) (c : Console) (op : Nat) (m : RecordNo) :
    (freedAt s n o k c op).record m =
      if n = m then ((journaledAt s n o k c op).record n).ended o k else (journaledAt s n o k c op).record m :=
  State.record_setRecord ..

theorem endRecord_record (s : State) (n : RecordNo) (o : HoOutcome) (k : HoCause) (c : Console) (op : Nat)
    (m : RecordNo) : (endRecord s n o k c op).state.record m = (freedAt s n o k c op).record m := by
  rw [endRecord_apart]
  rfl

theorem core_journaledAt (s : State) (n : RecordNo) (o : HoOutcome) (k : HoCause) (c : Console) (op : Nat)
    (m : RecordNo) : ((journaledAt s n o k c op).record m).core = (s.record m).core := by
  rw [(journaledAt_kept ..).records, releasedAt_eq]
  rfl

theorem ended_of_core {h h' : HoRecord} (same : h'.core = h.core) (o : HoOutcome) (k : HoCause) :
    { h'.ended o k with confirmed := h.confirmed } = h.ended o k :=
  congrArg (fun x : HoRecord => { x.ended o k with confirmed := h.confirmed }) same

theorem restored_of_core {h h' : HoRecord} (same : h'.core = h.core) :
    { h' with confirmed := h.confirmed, held := h.held } = h :=
  congrArg (fun x : HoRecord => { x with confirmed := h.confirmed, held := h.held }) same

/-- R3: a released record is named by no area, where areas name the records that hold them. -/
theorem releasedAt_unnamed (sound : s.recordsSound) (n : RecordNo) (o : HoOutcome) (a : AreaNo) :
    ((releasedAt s n o).area a).record ≠ some n := by
  rw [area_releasedAt]
  split
  · nofun
  · next outside => exact fun names => outside ((sound a n).mp names).2

/-- R97: the confirmed items of an ended record stay. -/
theorem confirmed_ended (sound : s.recordsSound) (n : RecordNo) (o : HoOutcome) (k : HoCause) (c : Console) (op : Nat) :
    ((endRecord s n o k c op).state.record n).confirmed = (s.record n).confirmed := by
  have hush := (journaledAt_hushed s n o k c op).after (rescopedAt_hushed s n o)
  have stays := hush.confirmed n (releasedAt_unnamed sound n o)
  rw [endRecord_record, record_freedAt, if_pos rfl]
  refine stays.trans ?_
  rw [releasedAt_eq]
  rfl

/-! ## Attendance and scopes -/

theorem incomingIn_setRecord {a : AreaNo} (unnamed : (s.area a).record ≠ some n) (h : HoRecord) (d : Console) :
    (s.setRecord n h).incomingIn d a = s.incomingIn d a := by
  rw [Bool.eq_iff_iff, State.incomingIn_iff, State.incomingIn_iff]
  refine exists_congr fun m => and_congr_right fun names => ?_
  have other : n ≠ m := fun same => unnamed (by rw [same]; exact names)
  rw [State.record_setRecord_other s other]

theorem attendanceTest_setRecord {a : AreaNo} (unnamed : (s.area a).record ≠ some n) (h : HoRecord) :
    attendanceTest (s.setRecord n h) a = attendanceTest s a := by
  unfold attendanceTest
  simp only [incomingIn_setRecord unnamed h]
  rfl

theorem setRecord_scopesRight (unnamed : ∀ a, (s.area a).record ≠ some n) (h : HoRecord) (right : s.scopesRight) :
    (s.setRecord n h).scopesRight := by
  intro d
  refine (right d).trans ?_
  unfold hornScope
  simp only [incomingIn_setRecord (unnamed _) h]
  rfl

theorem endRecord_scopesRight (sound : s.recordsSound) (n : RecordNo) (o : HoOutcome) (k : HoCause) (c : Console)
    (op : Nat) : (endRecord s n o k c op).state.scopesRight := by
  have reevaluated : (reevaluatedAt s n o).scopesRight := reevaluateAll_scopesRight _ (recomputeScopes_scopesRight _)
  refine (endRecord_seq ..).scopesRight (setRecord_scopesRight (fun a => ?_) _ ((journaledAt_seq ..).scopesRight reevaluated))
  rw [(journaledAt_kept ..).record]
  exact releasedAt_unnamed sound n o a

/-- R6: the attendance after the end of a record. -/
theorem attendance_ended (s : State) (n : RecordNo) (o : HoOutcome) (k : HoCause) (c : Console) (op : Nat) (a : AreaNo) :
    ((endRecord s n o k c op).state.area a).attendance =
      if inSet a (s.record n).areas = true then tableAttendance (rescopedAt s n o) a else (s.area a).attendance := by
  rw [(endRecord_seq ..).attendance, area_freedAt, (journaledAt_seq ..).attendance, reevaluatedAt,
    attendance_reevaluateAll _ (members_nodup _), attendance_rescopedAt]
  exact if_congr mem_members rfl rfl

/-- R5: the attendance test of an ended record's area is the one its re-evaluation found. -/
theorem attendanceTest_ended {a : AreaNo} (inside : inSet a (s.record n).areas = true) (o : HoOutcome) (k : HoCause)
    (c : Console) (op : Nat) :
    attendanceTest (endRecord s n o k c op).state a = attendanceTest (rescopedAt s n o) a := by
  have unnamed : ((journaledAt s n o k c op).area a).record ≠ some n := by
    rw [(journaledAt_kept ..).record, area_releasedAt, if_pos inside]
    nofun
  rw [(endRecord_seq ..).toKept.attendanceTest_eq, freedAt, attendanceTest_setRecord unnamed,
    (journaledAt_seq ..).toKept.attendanceTest_eq, (reevaluatedAt_kept ..).attendanceTest_eq]

theorem time_rescopedAt (s : State) (n : RecordNo) (o : HoOutcome) : (rescopedAt s n o).time = s.time := by
  rw [(rescopedAt_kept s n o).time, releasedAt_eq]

/-- R4: the attendance that the table gives, from its value before, the attendance test and the run clock. -/
def attendanceBy (now : Word32) (x : Attendance) (test : Bool) : Attendance :=
  match x, test with
  | .attended, true => .attended
  | .attended, false => .unattended now
  | .unattended _, true => .attended
  | .unattended u, false => .unattended u
  | .escalated _, true => .attended
  | .escalated u, false => .escalated u

theorem tableAttendance_by (s : State) (a : AreaNo) :
    tableAttendance s a = attendanceBy s.time.runClock (s.area a).attendance (attendanceTest s a) := by
  cases held : (s.area a).attendance <;> cases test : attendanceTest s a <;>
    simp only [tableAttendance, attendanceBy, held, test]

theorem tableAttendance_ended {a : AreaNo} (inside : inSet a (s.record n).areas = true) (o : HoOutcome) (k : HoCause)
    (c : Console) (op : Nat) : tableAttendance (rescopedAt s n o) a =
      attendanceBy s.time.runClock (s.area a).attendance (attendanceTest (endRecord s n o k c op).state a) := by
  rw [tableAttendance_by, attendanceTest_ended inside, attendance_rescopedAt, time_rescopedAt]

/-- R117: PRESENCE where the end of a record ends the escalation of one of its areas. -/
theorem presence_ended {a : AreaNo} (inside : inSet a (s.record n).areas = true) {u : Word32}
    (escalated : (s.area a).attendance = .escalated u) (k : HoCause) (c : Console) (op : Nat)
    (test : attendanceTest (endRecord s n o k c op).state a = true) :
    let e := (endRecord s n o k c op).state
    (e.port 0).flags &&& EventFlag.presence.bit = EventFlag.presence.bit ∧
    (e.port (e.area a).owner).flags &&& EventFlag.presence.bit = EventFlag.presence.bit := by
  obtain ⟨lead, own⟩ := presence_reevaluateAll (members_nodup (s.record n).areas) (mem_members.mpr inside)
    ((attendance_rescopedAt s n o a).trans escalated) ((attendanceTest_ended inside o k c op).symm.trans test)
  have later {d : Console} (set : ((reevaluatedAt s n o).port d).flags &&& EventFlag.presence.bit = EventFlag.presence.bit) :
      ((endRecord s n o k c op).state.port d).flags &&& EventFlag.presence.bit = EventFlag.presence.bit :=
    (endRecord_seq ..).toKept.flag_stays (s := freedAt s n o k c op) ((journaledAt_seq ..).toKept.flag_stays set)
  dsimp only
  rw [(endRecord_seq ..).owner, area_freedAt, (journaledAt_seq ..).owner, (reevaluatedAt_kept ..).owner]
  exact ⟨later lead, later own⟩

/-! ## Ack sets and flags -/

theorem endRecord_point (s : State) (n : RecordNo) (o : HoOutcome) (k : HoCause) (c : Console) (op : Nat)
    (p : PointNo) : (endRecord s n o k c op).state.point p = (journaledAt s n o k c op).point p := by
  rw [endRecord_apart]
  rfl

/-- R103: every ack set of an ended record's areas is empty. -/
theorem ackSet_ended {p : PointNo} (configured : (s.point p).configured = true)
    (inside : inSet (s.point p).area (s.record n).areas = true) (o : HoOutcome) (k : HoCause) (c : Console) (op : Nat) :
    ((endRecord s n o k c op).state.point p).ackSet = [] := by
  have emptied : ((resolvedAt s n o).state.point p).ackSet = [] := by
    rw [resolvedAt, resolveAckSets_eq]
    refine resolveOver_empties ?_ ?_ ..
    · rw [point_releasedAt]; exact configured
    · rw [point_releasedAt]; exact inside
  rw [endRecord_point]
  exact (journaledAt_hushed s n o k c op).acks p ((recomputeScopes_hushed _).acks p emptied)

theorem setFlagParty_sets (f : EventFlag) (d : Console) (s : State) :
    ((setFlagParty f (some d) s).port d).flags &&& f.bit = f.bit := setFlag_sets f s d

theorem handover_ended {x y : Console} (outgoing : (s.record n).outConsole = some x)
    (incoming : (s.record n).inConsole = some y) (o : HoOutcome) (k : HoCause) (c : Console) (op : Nat) :
    let e := (endRecord s n o k c op).state
    (e.port x).flags &&& EventFlag.handover.bit = EventFlag.handover.bit ∧
    (e.port y).flags &&& EventFlag.handover.bit = EventFlag.handover.bit := by
  dsimp only
  rw [endRecord_state, outgoing, incoming]
  exact ⟨(setFlagParty_keeps ..).flag_stays (setFlagParty_sets ..), setFlagParty_sets ..⟩

theorem endRecord_holds (s : State) (n : RecordNo) (o : HoOutcome) (k : HoCause) (c : Console) (op : Nat) :
    let e := (endRecord s n o k c op).state
    e.roster = s.roster ∧ e.desks = s.desks ∧ e.shelf = s.shelf ∧ e.time = s.time := by
  have kept := journaledAt_kept s n o k c op
  have write := releasedAt_eq s n o
  dsimp only
  rw [endRecord_apart]
  refine ⟨kept.roster.trans ?_, kept.desks.trans ?_, kept.shelf.trans ?_, kept.time.trans ?_⟩ <;> rw [write]

end Sys2Proof.Machine
end

section
/-! The end of a record in a journal with room: R103, R109. -/

namespace Sys2Proof.Machine

variable {s t : State} {n : RecordNo} {o : HoOutcome}

/-! ## In a journal with room (R103, R109) -/

/-- R103: the points that the end of a record completes. -/
def completedAt (s : State) (n : RecordNo) (o : HoOutcome) : List PointNo :=
  dueIn s (s.record n).areas (survivor (s.record n) o).1 (List.finRange 512)

/-- R103: the point that the resolution of an end makes of one it completes. -/
def survivorsPoint (s : State) (n : RecordNo) (o : HoOutcome) (p : PointNo) : Point :=
  acknowledged s p (survivor (s.record n) o).1 (survivor (s.record n) o).2 false

/-- R103: the ACK record of a point that the end of a record completes. -/
def survivorsRecord (s : State) (n : RecordNo) (o : HoOutcome) (p : PointNo) : JournalRecord :=
  resolvedRecord s (survivor (s.record n) o).1 (survivor (s.record n) o).2 p

/-- R109: the HO_END record. -/
def endingRecord (s : State) (n : RecordNo) (o : HoOutcome) (k : HoCause) (c : Console) (op : Nat) : JournalRecord :=
  journalRecord s .hoEnd .accountable n c 0#6 op (endValue o k (s.record n).areas)

theorem dueIn_congr (points : ∀ p, (t.point p).unmarked = (s.point p).unmarked) (set : AreaSet) (c : Console)
    (l : List PointNo) : dueIn t set c l = dueIn s set c l :=
  List.filter_congr fun p _ => dueFor_congr (points p) set c

theorem unmarked_releasedAt (s : State) (n : RecordNo) (o : HoOutcome) (p : PointNo) :
    ((releasedAt s n o).point p).unmarked = (s.point p).unmarked := by
  rw [point_releasedAt]

theorem time_releasedAt (s : State) (n : RecordNo) (o : HoOutcome) : (releasedAt s n o).time = s.time := by
  rw [releasedAt_eq]

theorem journal_releasedAt (s : State) (n : RecordNo) (o : HoOutcome) : (releasedAt s n o).journal = s.journal := by
  rw [releasedAt_eq]

theorem resolvedAt_calm (calm : s.calm (completedAt s n o).length) :
    (resolvedAt s n o).completed = (completedAt s n o).length ∧
    Takes s (resolvedAt s n o).state ((completedAt s n o).map (survivorsRecord s n o)) ∧
    ∀ x, ((resolvedAt s n o).state.point x).bare =
      if x ∈ completedAt s n o then (survivorsPoint s n o x).bare else (s.point x).bare := by
  have same (l : List PointNo) := dueIn_congr (unmarked_releasedAt s n o) (s.record n).areas (survivor (s.record n) o).1 l
  have released : Takes s (releasedAt s n o) [] := .none (journal_releasedAt s n o)
  unfold completedAt at calm ⊢
  rw [resolvedAt, resolveAckSets_eq]
  have once : (List.finRange 512).Nodup := List.nodup_finRange 512
  generalize List.finRange 512 = l at calm once ⊢
  have run := resolveOver_calm (s := releasedAt s n o) (set := (s.record n).areas) (c := (survivor (s.record n) o).1)
    once (by rw [same]; exact released.calm (by simp) calm) (survivor (s.record n) o).2
  rw [same] at run
  obtain ⟨completed, takes, points⟩ := run
  refine ⟨completed, ?_, fun x => (points x).trans ?_⟩
  · have records : (dueIn s (s.record n).areas (survivor (s.record n) o).1 l).map (resolvedRecord (releasedAt s n o)
        (survivor (s.record n) o).1 (survivor (s.record n) o).2) = _ :=
      List.map_congr_left fun x _ => resolvedRecord_congr (time_releasedAt s n o) (unmarked_releasedAt s n o x)
    rw [records] at takes
    exact released.then takes
  · rw [point_releasedAt]
    exact if_congr Iff.rfl
      (bare_of_unmarked (acknowledged_congr (time_releasedAt s n o) (unmarked_releasedAt s n o x))) rfl

theorem Takes.rescoped {l : List JournalRecord} (h : Takes s t l) : Takes s (recomputeScopes t) l :=
  ⟨h.fifo, h.pending, h.events⟩

theorem point_recomputeScopes (s : State) (p : PointNo) : (recomputeScopes s).point p = s.point p := rfl

theorem journal_ended (s : State) (n : RecordNo) (o : HoOutcome) (k : HoCause) (c : Console) (op : Nat) :
    (endRecord s n o k c op).state.journal = (journaledAt s n o k c op).journal := by
  rw [endRecord_apart]
  rfl

/-- R109: the journal and the points after the end of a record. -/
theorem endRecord_calm (calm : s.calm ((completedAt s n o).length + 2)) (k : HoCause) (c : Console) (op : Nat) :
    (endRecord s n o k c op).completed = (completedAt s n o).length ∧
    (∀ x, x ≠ 508 → ((endRecord s n o k c op).state.point x).bare =
      if x ∈ completedAt s n o then (survivorsPoint s n o x).bare else (s.point x).bare) ∧
    ∃ l : List JournalRecord, l.length ≤ 1 ∧ (∀ z ∈ l, z.kind = .pointReturn ∧ z.subject = 508#16) ∧
      ((∀ a u, inSet a (s.record n).areas = true → (s.area a).attendance ≠ .escalated u) → l = []) ∧
      (endRecord s n o k c op).state.journal.fifo =
        s.journal.fifo ++ (completedAt s n o).map (survivorsRecord s n o) ++ l ++ [endingRecord s n o k c op] := by
  have nothing : Takes s s [] := .none rfl
  obtain ⟨completed, resolved, points⟩ := resolvedAt_calm (n := n) (o := o) (nothing.calm (by simp) calm)
  have rescoped : Takes s (rescopedAt s n o) ((completedAt s n o).map (survivorsRecord s n o)) :=
    resolved.rescoped
  have calm1 : (rescopedAt s n o).calm (1 + 1) := rescoped.calm (by simp) calm
  obtain ⟨l, returns, quiet⟩ := reevaluateAll_calm (Takes.calm (.none rfl : Takes _ _ []) (by simp) calm1)
    (members (s.record n).areas)
  have calm2 : (reevaluatedAt s n o).calm (0 + 1) :=
    returns.takes.calm (Nat.add_le_add_right returns.brief 1) calm1
  have time : (reevaluatedAt s n o).time = s.time := by rw [(reevaluatedAt_kept s n o).time, time_rescopedAt]
  have journaled : journaledAt s n o k c op =
      { reevaluatedAt s n o with journal := (reevaluatedAt s n o).journal.accept (endingRecord s n o k c op) } := by
    rw [journaledAt, offer_calm calm2, journalRecord_congr time]
    rfl
  refine ⟨(endRecord_completed ..).trans completed, fun x other => ?_, l, returns.brief, returns.records, fun all => ?_, ?_⟩
  · rw [endRecord_point, journaled]
    refine (bare_of_unmarked (returns.points x other)).trans ?_
    rw [rescopedAt, point_recomputeScopes]
    exact points x
  · refine quiet fun a inside u => ?_
    rw [attendance_rescopedAt]
    exact all a u (mem_members.mp inside)
  · rw [journal_ended, journaled]
    refine (accept_fifo ..).trans ?_
    rw [reevaluatedAt, returns.takes.fifo, rescoped.fifo]

/-- A point that stands but for its first mark and its ack set. -/
theorem restored_of_bare {q q' : Point} (same : q'.bare = q.bare) :
    { q' with firstMark := q.firstMark, ackSet := q.ackSet } = q :=
  congrArg (fun x : Point => { x with firstMark := q.firstMark, ackSet := q.ackSet }) same

end Sys2Proof.Machine
end

section
/-! What the end of a record leaves, assembled for O35: R85, R102 to R104. -/

namespace Sys2Proof.Machine

variable {s : State} {n : RecordNo} {o : HoOutcome} {x y : Console}

/-- R103: who survives the end of a record whose parties are known. -/
theorem survivor_parties (outgoing : (s.record n).outConsole = some x) (incoming : (s.record n).inConsole = some y)
    (o : HoOutcome) : survivor (s.record n) o = if o = .committed ∨ o = .superseded
      then (y, (s.record n).inOperator.getD 0) else (x, (s.record n).outOperator.getD 0) := by
  rw [survivor, outgoing, incoming]
  exact if_congr o.isCommit_iff rfl rfl

theorem completedAt_eq (s : State) (n : RecordNo) (o : HoOutcome) : completedAt s n o =
    (List.finRange 512).filter fun p => decide ((s.point p).configured = true ∧
      (s.record n).areas.getLsbD (s.point p).area = true ∧
      ((s.point p).state = .raised ∨ (s.point p).state = .returned) ∧
      (survivor (s.record n) o).1 ∈ (s.point p).ackSet) := by
  refine List.filter_congr fun p _ => Bool.eq_iff_iff.mpr ?_
  simp only [dueFor, Point.unacknowledged, inSet, Bool.and_eq_true, Bool.or_eq_true, beq_iff_eq, decide_eq_true_eq,
    List.contains_iff_mem, and_assoc]

/-- R2, R102: the owners after a commit, and how many changed. -/
theorem owners_committed (incoming : (s.record n).inConsole = some y) (commits : o.isCommit = true) (k : HoCause)
    (c : Console) (op : Nat) :
    (∀ a, ((endRecord s n o k c op).state.area a).owner =
      if (s.record n).areas.getLsbD a = true then y else (s.area a).owner) ∧
    (endRecord s n o k c op).changed = ((List.finRange 24).filter fun a : AreaNo =>
      (s.record n).areas.getLsbD a && (s.area a).owner != y).length := by
  have owner : newOwner (s.record n) o = some y := (if_pos commits).trans incoming
  refine ⟨fun a => ?_, ?_⟩
  · rw [owner_ended, owner]
    rfl
  · rw [endRecord_changed, owner, countAreas_members]
    exact congrArg List.length (List.filter_congr fun a _ => congrArg _ (bne_comm ..))

/-- R102: an end that is no commit leaves the owners. -/
theorem owners_kept (rests : ¬ o.isCommit = true) (s : State) (n : RecordNo) (k : HoCause) (c : Console) (op : Nat) :
    (∀ a, ((endRecord s n o k c op).state.area a).owner = (s.area a).owner) ∧
    (endRecord s n o k c op).changed = 0 := by
  have owner : newOwner (s.record n) o = none := if_neg rests
  refine ⟨fun a => ?_, ?_⟩
  · rw [owner_ended, owner]
    exact ite_self _
  · rw [endRecord_changed, owner, countAreas_members]
    simp

/-- R85: the ended record. -/
theorem record_of_end (s : State) (n : RecordNo) (o : HoOutcome) (k : HoCause) (c : Console) (op : Nat) :
    { (endRecord s n o k c op).state.record n with confirmed := (s.record n).confirmed } = (s.record n).ended o k := by
  rw [endRecord_record, record_freedAt, if_pos rfl]
  exact ended_of_core (core_journaledAt s n o k c op n) o k

theorem other_record_of_end {m : RecordNo} (other : m ≠ n) (s : State) (o : HoOutcome) (k : HoCause) (c : Console)
    (op : Nat) : { (endRecord s n o k c op).state.record m with
      confirmed := (s.record m).confirmed, held := (s.record m).held } = s.record m := by
  rw [endRecord_record, record_freedAt, if_neg (Ne.symm other)]
  exact restored_of_core (core_journaledAt s n o k c op m)

/-- R103: a point that the end of a record completes. -/
theorem point_survives {k : HoCause} {c : Console} {op : Nat} {p : PointNo} (inside : p ∈ completedAt s n o)
    (same : ((endRecord s n o k c op).state.point p).bare =
      if p ∈ completedAt s n o then (survivorsPoint s n o p).bare else (s.point p).bare) :
    ((endRecord s n o k c op).state.point p).state = (s.point p).ackReached ∧
    ((endRecord s n o k c op).state.point p).ack =
      some ⟨s.journalClock, (survivor (s.record n) o).1, (survivor (s.record n) o).2, false⟩ := by
  rw [if_pos inside] at same
  have state := congrArg Point.state same
  have ack := congrArg Point.ack same
  obtain ⟨-, written, -⟩ := acknowledged_fields s p (survivor (s.record n) o).1 (survivor (s.record n) o).2 false
  have reached := acknowledged_state s p (survivor (s.record n) o).1 (survivor (s.record n) o).2 false
  exact ⟨state.trans reached, ack.trans written⟩

theorem attendance_of_end {a : AreaNo} (inside : inSet a (s.record n).areas = true) (o : HoOutcome) (k : HoCause)
    (c : Console) (op : Nat) : ((endRecord s n o k c op).state.area a).attendance =
      attendanceBy s.time.runClock (s.area a).attendance (attendanceTest (endRecord s n o k c op).state a) := by
  rw [attendance_ended, if_pos inside, tableAttendance_ended inside]

end Sys2Proof.Machine

namespace Sys2Proof.Proofs
open Sys2Proof.Machine

/-- Settles O35: the end of a record is followed through its stages: the areas are released, the ack sets resolved, the
scopes recomputed, attendance re-evaluated, the HO_END record offered and the record freed. -/
theorem endOfARecord : Obligations.EndOfARecord := by
  unfold Obligations.EndOfARecord
  intro s n o k c x y op h e t named commits survives done reached outgoing incoming
  have survivor' : survivor (s.record n) o = survives := survivor_parties outgoing incoming o
  have done' : completedAt s n o = done := by rw [completedAt_eq, survivor']
  refine ⟨fun p configured inside => ackSet_ended configured inside o k c op, fun calm => ?_,
    fun a => record_ended s n o k c op a, fun commit => owners_committed incoming (o.isCommit_iff.mpr commit) k c op,
    fun rests => owners_kept (fun commit => rests (o.isCommit_iff.mp commit)) s n k c op, record_of_end s n o k c op,
    fun sound => ⟨confirmed_ended sound n o k c op, fun d a => ?_⟩, fun a outside => ?_, fun a inside => ⟨?_, ?_⟩,
    fun m other => other_record_of_end other s o k c op, ?_⟩
  · rw [← done'] at calm ⊢
    obtain ⟨completed, points, l, brief, records, quiet, fifo⟩ := endRecord_calm calm k c op
    refine ⟨completed, fun p inside other => ?_, fun p outside other => ?_, l, brief, records,
      fun all => quiet fun a u inside => all a u inside, ?_⟩
    · rw [← survivor']
      exact point_survives inside (points p other)
    · exact restored_of_bare ((points p other).trans (if_neg outside))
    · rw [← survivor']
      exact fifo
  · rw [endRecord_scopesRight sound n o k c op d]
    exact hornScope_getLsbD ..
  · exact (attendance_ended s n o k c op a).trans (if_neg (Bool.eq_false_iff.mp outside))
  · refine (attendance_of_end inside o k c op).trans ?_
    change attendanceBy s.time.runClock _ (attendanceTest t a) = _
    generalize (s.area a).attendance = was
    generalize attendanceTest t a = test
    cases was <;> cases test <;> rfl
  · exact fun u escalated test => presence_ended inside escalated k c op test
  · obtain ⟨told, told'⟩ := handover_ended outgoing incoming o k c op
    obtain ⟨roster, desks, shelf, time⟩ := endRecord_holds s n o k c op
    exact ⟨told, told', roster, desks, shelf, time⟩

end Sys2Proof.Proofs
end
